-- ==== Sys2Proof/Word.lean ====
section
/-! DEFINITION. The word types of the block and the plain names its rules use (00_scope.md R10, R12; 30_encoding.md R70).
Every value of the block is unsigned (R10). -/

namespace Sys2Proof

/-- One byte: every memory access is one byte wide (20_memory.md R52). -/
abbrev Byte := BitVec 8

/-- A queue handle, which is a byte address of P_ADDR_W = 32 bits (00_scope.md R8, R13; 20_memory.md R50). -/
abbrev Handle := BitVec 32

/-- A 64-bit operation word, the name of one step (30_encoding.md R70). -/
abbrev OpWord := BitVec 64

/-- A 16-bit bus command code (30_encoding.md R80). -/
abbrev CmdCode := BitVec 16

/-- The axis operand of FORMAT (30_encoding.md R70, field AX: 0 = X, 1 = Y). -/
inductive Axis where
  | x
  | y
deriving DecidableEq, Repr

/-- The agents of the block (00_scope.md R12). -/
inductive Agent where
  | host
  | timer
  | cpu
  | busEnvironment
  | engine
deriving DecidableEq, Repr

end Sys2Proof
end

