-- ==== Sys2Proof/Syntax.lean ====
section
/-! DEFINITION. The operations of the block, one constructor per row of spec/opcode_table.json (30_encoding.md R72), and the
trace notation of R85 and R86. -/

namespace Sys2Proof

/-- An operation of the block (30_encoding.md R72), with the fields it uses. Every value of a used field is allowed (R73). -/
inductive Instr where
  /-- 0x00 RESET. -/
  | reset
  /-- 0x01 TIMER_START. -/
  | timerStart
  /-- 0x02 TIMER_TICK. -/
  | timerTick
  /-- 0x03 UPD_ISR. -/
  | updIsr
  /-- 0x04 CMP_ISR. -/
  | cmpIsr
  /-- 0x05 BUS_EVENT: the flag vector FLG and the received byte VAL. -/
  | busEvent (f : BitVec 4) (d : Byte)
  /-- 0x06 ENGINE_BYTE. -/
  | engineByte
  /-- 0x07 TC_ISR. -/
  | tcIsr
  /-- 0x08 BEGIN_READ: the register identifier VAL. -/
  | beginRead (r : Byte)
  /-- 0x09 FORMAT: the axis AX and the raw reading VAL. -/
  | format (ax : Axis) (v : Byte)
  /-- 0x0A SUBMIT: the handle H. -/
  | submit (h : Handle)
  /-- 0x0B ENQUEUE: the handle H. -/
  | enqueue (h : Handle)
  /-- 0x0C DEQUEUE. -/
  | dequeue
  /-- 0x0D ENGINE_START: the handle H. -/
  | engineStart (h : Handle)
deriving DecidableEq, Repr

/-- Operations 0x08-0x0D are unit operations, the others system operations (30_encoding.md R75). -/
def Instr.isUnit : Instr → Bool
  | .reset => false
  | .timerStart => false
  | .timerTick => false
  | .updIsr => false
  | .cmpIsr => false
  | .busEvent _ _ => false
  | .engineByte => false
  | .tcIsr => false
  | .beginRead _ => true
  | .format _ _ => true
  | .submit _ => true
  | .enqueue _ => true
  | .dequeue => true
  | .engineStart _ => true

/-- The agent that issues an operation (30_encoding.md R72, column "issued by"; 00_scope.md R12 (5) gives the unit operations
to the host; a BUS_EVENT is delivered by the bus environment and run by a CPU handler). -/
def Instr.issuer : Instr → Agent
  | .reset => .host
  | .timerStart => .host
  | .timerTick => .timer
  | .updIsr => .cpu
  | .cmpIsr => .cpu
  | .busEvent _ _ => .busEnvironment
  | .engineByte => .engine
  | .tcIsr => .cpu
  | .beginRead _ => .host
  | .format _ _ => .host
  | .submit _ => .host
  | .enqueue _ => .host
  | .dequeue => .host
  | .engineStart _ => .host

/-- The `<flags>` of an assembler line: the names of the bits set, joined by `|`, or `-` (30_encoding.md R85, R78). -/
def flagNames (f : BitVec 4) : String :=
  match (if f.getLsbD 0 then ["SB"] else []) ++ (if f.getLsbD 1 then ["ADDR"] else []) ++
      (if f.getLsbD 2 then ["BTF"] else []) ++ (if f.getLsbD 3 then ["RXNE"] else []) with
  | [] => "-"
  | names => String.intercalate "|" names

/-- The assembler line of an operation, with its numbers in decimal (30_encoding.md R85). -/
def Instr.line : Instr → String
  | .reset => "RESET"
  | .timerStart => "TIMER_START"
  | .timerTick => "TICK"
  | .updIsr => "UPD_ISR"
  | .cmpIsr => "CMP_ISR"
  | .busEvent f d => "BUS " ++ flagNames f ++ ", #" ++ toString d.toNat
  | .engineByte => "EBYTE"
  | .tcIsr => "TC_ISR"
  | .beginRead r => "BEGIN_READ #" ++ toString r.toNat
  | .format .x v => "FORMAT X, #" ++ toString v.toNat
  | .format .y v => "FORMAT Y, #" ++ toString v.toNat
  | .submit h => "SUBMIT #" ++ toString h.toNat
  | .enqueue h => "ENQUEUE #" ++ toString h.toNat
  | .dequeue => "DEQUEUE"
  | .engineStart h => "ENGINE_START #" ++ toString h.toNat

/-- The pseudo-operation `TICKS n` (30_encoding.md R86). -/
def Instr.ticks (n : Nat) : List Instr := List.replicate n .timerTick

/-- The pseudo-operation `EBYTES n` (30_encoding.md R86). -/
def Instr.ebytes (n : Nat) : List Instr := List.replicate n .engineByte

/-- The pseudo-operation `XACT #d`: the canonical event sequence of one transaction (30_encoding.md R86, R78). -/
def Instr.xact (d : Byte) : List Instr :=
  [.busEvent 0b0001 0, .busEvent 0b0010 0, .busEvent 0b0100 0, .busEvent 0b0001 0, .busEvent 0b0010 0, .busEvent 0b1000 d]

end Sys2Proof
end

