-- ==== Sys2Proof/Decode.lean ====
section
/-! DEFINITION. The operation word: its fields, the decoder, the encoder and the opcode table (30_encoding.md R70-R74, R87). -/

namespace Sys2Proof

/-- `OPC = w[63:56]` (30_encoding.md R71). -/
def opcField (w : OpWord) : BitVec 8 := w.extractLsb' 56 8
/-- `RSV = w[55:45]` (30_encoding.md R71). -/
def rsvField (w : OpWord) : BitVec 11 := w.extractLsb' 45 11
/-- `AX = w[44]` (30_encoding.md R71). -/
def axField (w : OpWord) : BitVec 1 := w.extractLsb' 44 1
/-- `FLG = w[43:40]` (30_encoding.md R71). -/
def flgField (w : OpWord) : BitVec 4 := w.extractLsb' 40 4
/-- `VAL = w[39:32]` (30_encoding.md R71). -/
def valField (w : OpWord) : Byte := w.extractLsb' 32 8
/-- `H = w[31:0]` (30_encoding.md R71). -/
def hField (w : OpWord) : Handle := w.extractLsb' 0 32

/-- The operation codes (30_encoding.md R72). -/
inductive Opcode where
  | reset
  | timerStart
  | timerTick
  | updIsr
  | cmpIsr
  | busEvent
  | engineByte
  | tcIsr
  | beginRead
  | format
  | submit
  | enqueue
  | dequeue
  | engineStart
deriving DecidableEq, Repr

/-- The operation an OPC value names; codes 0x0E-0xFF are reserved (30_encoding.md R72). -/
def Opcode.ofCode? (c : BitVec 8) : Option Opcode :=
  match c.toNat with
  | 0x00 => some .reset
  | 0x01 => some .timerStart
  | 0x02 => some .timerTick
  | 0x03 => some .updIsr
  | 0x04 => some .cmpIsr
  | 0x05 => some .busEvent
  | 0x06 => some .engineByte
  | 0x07 => some .tcIsr
  | 0x08 => some .beginRead
  | 0x09 => some .format
  | 0x0A => some .submit
  | 0x0B => some .enqueue
  | 0x0C => some .dequeue
  | 0x0D => some .engineStart
  | _ => none

/-- Whether every field the operation does not use is zero (30_encoding.md R72 column "fields used", R73). -/
def Opcode.unusedZero (op : Opcode) (w : OpWord) : Bool :=
  let noAx := axField w == 0
  let noFlg := flgField w == 0
  let noVal := valField w == 0
  let noH := hField w == 0
  match op with
  | .reset => noAx && noFlg && noVal && noH
  | .timerStart => noAx && noFlg && noVal && noH
  | .timerTick => noAx && noFlg && noVal && noH
  | .updIsr => noAx && noFlg && noVal && noH
  | .cmpIsr => noAx && noFlg && noVal && noH
  | .busEvent => noAx && noH
  | .engineByte => noAx && noFlg && noVal && noH
  | .tcIsr => noAx && noFlg && noVal && noH
  | .beginRead => noAx && noFlg && noH
  | .format => noFlg && noH
  | .submit => noAx && noFlg && noVal
  | .enqueue => noAx && noFlg && noVal
  | .dequeue => noAx && noFlg && noVal && noH
  | .engineStart => noAx && noFlg && noVal

/-- The axis an AX bit names (30_encoding.md R70). -/
def Axis.ofBit (b : BitVec 1) : Axis := if b = 0 then .x else .y

/-- The AX bit of an axis (30_encoding.md R70). -/
def Axis.bit : Axis → BitVec 1
  | .x => 0
  | .y => 1

/-- The operation a word stands for, its operands taken by slicing (30_encoding.md R71, R72). -/
def Opcode.build (op : Opcode) (w : OpWord) : Instr :=
  match op with
  | .reset => .reset
  | .timerStart => .timerStart
  | .timerTick => .timerTick
  | .updIsr => .updIsr
  | .cmpIsr => .cmpIsr
  | .busEvent => .busEvent (flgField w) (valField w)
  | .engineByte => .engineByte
  | .tcIsr => .tcIsr
  | .beginRead => .beginRead (valField w)
  | .format => .format (Axis.ofBit (axField w)) (valField w)
  | .submit => .submit (hField w)
  | .enqueue => .enqueue (hField w)
  | .dequeue => .dequeue
  | .engineStart => .engineStart (hField w)

/-- Why a word is illegal (30_encoding.md R74). -/
inductive IllegalWord where
  /-- OPC is in 0x0E-0xFF. -/
  | reservedOpcode
  /-- RSV is not zero. -/
  | reservedBits
  /-- A field the operation does not use is not zero. -/
  | unusedField
deriving DecidableEq, Repr

/-- The decoder: it reads OPC and then the fields R72 lists for it, and rejects every other word by name
(30_encoding.md R73, R74, R87). -/
def decode (w : OpWord) : Except IllegalWord Instr :=
  match Opcode.ofCode? (opcField w) with
  | none => .error .reservedOpcode
  | some op =>
    if rsvField w ≠ 0 then .error .reservedBits
    else if op.unusedZero w then .ok (op.build w)
    else .error .unusedField

/-- A word from its fields, the reserved field zero (30_encoding.md R70, R73). -/
def assemble (opc : BitVec 8) (ax : BitVec 1) (flg : BitVec 4) (val : Byte) (h : Handle) : OpWord :=
  opc ++ (0 : BitVec 11) ++ ax ++ flg ++ val ++ h

/-- The word of an operation (30_encoding.md R70-R73). -/
def encode : Instr → OpWord
  | .reset => assemble 0x00 0 0 0 0
  | .timerStart => assemble 0x01 0 0 0 0
  | .timerTick => assemble 0x02 0 0 0 0
  | .updIsr => assemble 0x03 0 0 0 0
  | .cmpIsr => assemble 0x04 0 0 0 0
  | .busEvent f d => assemble 0x05 0 f d 0
  | .engineByte => assemble 0x06 0 0 0 0
  | .tcIsr => assemble 0x07 0 0 0 0
  | .beginRead r => assemble 0x08 0 0 r 0
  | .format ax v => assemble 0x09 ax.bit 0 v 0
  | .submit h => assemble 0x0A 0 0 0 h
  | .enqueue h => assemble 0x0B 0 0 0 h
  | .dequeue => assemble 0x0C 0 0 0 0
  | .engineStart h => assemble 0x0D 0 0 0 h

/-- One row of spec/opcode_table.json: the bits under the mask are the pattern's. -/
structure OpcodeRow where
  mnemonic : String
  pattern : OpWord
  mask : OpWord
deriving DecidableEq, Repr

/-- spec/opcode_table.json, row by row. The decoder does not read it: a statement says that the two agree. -/
def opcodeTable : List OpcodeRow := [
  ⟨"RESET", 0x0000000000000000, 0xFFFFFFFFFFFFFFFF⟩,
  ⟨"TIMER_START", 0x0100000000000000, 0xFFFFFFFFFFFFFFFF⟩,
  ⟨"TIMER_TICK", 0x0200000000000000, 0xFFFFFFFFFFFFFFFF⟩,
  ⟨"UPD_ISR", 0x0300000000000000, 0xFFFFFFFFFFFFFFFF⟩,
  ⟨"CMP_ISR", 0x0400000000000000, 0xFFFFFFFFFFFFFFFF⟩,
  ⟨"BUS_EVENT", 0x0500000000000000, 0xFFFFF000FFFFFFFF⟩,
  ⟨"ENGINE_BYTE", 0x0600000000000000, 0xFFFFFFFFFFFFFFFF⟩,
  ⟨"TC_ISR", 0x0700000000000000, 0xFFFFFFFFFFFFFFFF⟩,
  ⟨"BEGIN_READ", 0x0800000000000000, 0xFFFFFF00FFFFFFFF⟩,
  ⟨"FORMAT", 0x0900000000000000, 0xFFFFEF00FFFFFFFF⟩,
  ⟨"SUBMIT", 0x0A00000000000000, 0xFFFFFFFF00000000⟩,
  ⟨"ENQUEUE", 0x0B00000000000000, 0xFFFFFFFF00000000⟩,
  ⟨"DEQUEUE", 0x0C00000000000000, 0xFFFFFFFFFFFFFFFF⟩,
  ⟨"ENGINE_START", 0x0D00000000000000, 0xFFFFFFFF00000000⟩]

/-- The operation the decoder reads from the low `nbits` bits of `w`, numbered as spec/opcode_table.json numbers them: the
block's word is one 64-bit word, bit 0 its least significant bit (30_encoding.md R70, R87). -/
def decodeTableWord (nbits w : Nat) : Option Instr :=
  if w % 2 ^ nbits < 2 ^ 64 then (decode (BitVec.ofNat 64 (w % 2 ^ nbits))).toOption else none

end Sys2Proof
end

