-- ==== Sys2Proof/Config.lean ====
section
/-! DEFINITION. The implementation parameters (00_scope.md R8) and the free values the spec leaves open.

The model takes the parameters as arguments (R8): they are the field `config` of State, which every rule may read and none
writes (10_state.md R37), so a statement about every state holds for every value of them (notes/assumptions/1.md). -/

namespace Sys2Proof

/-- P_FRAME_LEN, fixed by the source (00_scope.md R8). -/
def frameLen : Nat := 11

/-- P_ADDR_W, decided by the spec (00_scope.md R8; D20); it is the width of `Handle`. -/
def addrWidth : Nat := 32

/-- The parameters of 00_scope.md R8 (P_FRAME_LEN and P_ADDR_W are the constants above). -/
structure Config where
  /-- P_DEV_ADDR, the 7-bit bus address of the sensor; OPEN. -/
  devAddr : BitVec 8
  /-- P_REG_X, the register read for the X axis; OPEN. -/
  regX : Byte
  /-- P_REG_Y, the register read for the Y axis; OPEN. -/
  regY : Byte
  /-- P_QCAP, the queue capacity; OPEN. -/
  qcap : Nat
  /-- P_PERIOD, the timer period in ticks; OPEN. -/
  period : Nat
  /-- P_CMP, the compare-match tick; OPEN. -/
  cmp : Nat
  /-- P_CNT_W, the width of CNT in bits; OPEN. -/
  cntW : Nat
  /-- P_FRAME_BASE, the address of the frame buffer; OPEN. -/
  frameBase : Handle
  /-- P_TX_LEN, the bytes one transfer moves; decided 11 (D10). -/
  txLen : Nat
  /-- P_TERM_BYTE, frame byte 10; decided 0x00 (D10). -/
  termByte : Byte
  /-- P_TIMER_INIT_UPDATE, whether TIMER_START raises an update event; decided false (D13). -/
  timerInitUpdate : Bool
  /-- P_INIT_ITER_MAX; OPEN, out of scope, read by no rule (D39). -/
  initIterMax : Nat
  /-- P_BAUD; OPEN, not modelled, read by no rule (D36). -/
  baud : Nat
deriving DecidableEq, Repr

/-- The configuration of 95_test_vectors.md section 0, with the decided values of R8. DESIGN CHOICE: it is the configuration
`State.reset` carries, because that state must carry one (notes/assumptions/1.md); unsafe. -/
def Config.reference : Config where
  devAddr := 0x1C
  regX := 0x29
  regY := 0x2B
  qcap := 2
  period := 10
  cmp := 5
  cntW := 16
  frameBase := 0x20000000
  txLen := 11
  termByte := 0x00
  timerInitUpdate := false
  initIterMax := 0
  baud := 0

/-- The bytes of free draws: draw n is `Config.freeByte n`, and nothing constrains it (20_memory.md R53; D21). -/
opaque Config.freeByte : Nat → BitVec 8

/-- What a read of the queue's storage outside its P_QCAP entries gives: no rule says, and no run makes such a read
(10_state.md R21 keeps Q_HEAD below P_QCAP), so nothing constrains it (notes/assumptions/7.md). -/
opaque Config.strayHandle : Nat → BitVec 32

end Sys2Proof
end

