-- ==== Sys2Proof/Machine/State.lean ====
section
/-! DEFINITION. The state of the block (10_state.md R21-R35), its stops, and the state after reset. -/

namespace Sys2Proof.Machine

/-- The seven positions of the bus state machine, in transaction order (10_state.md R22). A closed enumeration has no code 7
(30_encoding.md R77). -/
inductive TState where
  | idle
  | awaitSb1
  | awaitAddrW
  | awaitBtf
  | awaitSb2
  | awaitAddrR
  | awaitRxne
deriving DecidableEq, Repr

/-- Data memory: the bytes that differ from what an unlisted address reads as, addresses strictly rising
(Machine/Ops.lean: `Memory.unlisted`, `Memory.wf`). -/
abbrev Memory := List Host.Cell

/-- The state of the block. The fields up to `txOut` are the spec's; `config`, `schedule`, `draws` and `returned` are the
model's own. -/
structure State where
  /-- The parameters of 00_scope.md R8: no operation writes them (10_state.md R37). -/
  config : Config
  /-- The operation words the agents present, in the order of the run (00_scope.md R12; 20_memory.md R59). -/
  schedule : List OpWord
  /-- TSTATE (R22). -/
  tstate : TState
  /-- CUR_REG (R24). -/
  curReg : Byte
  /-- LAT_X (R25). -/
  latX : Byte
  /-- LAT_Y (R25). -/
  latY : Byte
  /-- TIM_EN (R26). -/
  timEn : Bool
  /-- CNT, P_CNT_W bits (R27). -/
  cnt : Nat
  /-- UPD_PEND (R28). -/
  updPend : Bool
  /-- CMP_PEND (R28). -/
  cmpPend : Bool
  /-- Q, P_QCAP entries (R29). -/
  q : List Handle
  /-- Q_HEAD, the index of the oldest entry (R30). -/
  qHead : Nat
  /-- Q_TAIL, the index ENQUEUE writes next (R30). -/
  qTail : Nat
  /-- Q_COUNT, the number of entries held (R30). -/
  qCount : Nat
  /-- ENG_BUSY (R31). -/
  engBusy : Bool
  /-- TC_PEND (R32). -/
  tcPend : Bool
  /-- TX_PTR (R33). -/
  txPtr : Handle
  /-- TX_REM (R33). -/
  txRem : Nat
  /-- FAULT, four sticky bits (R34; 30_encoding.md R84). -/
  fault : BitVec 4
  /-- The data space: the frame buffer's bytes that differ from their reset content (20_memory.md R51). -/
  mem : Memory
  /-- BUSCMD (R35). -/
  busCmd : List CmdCode
  /-- TXOUT (R35). -/
  txOut : List Byte
  /-- How many free draws have been made (20_memory.md R53). -/
  draws : Nat
  /-- The output labels of the DEQUEUE steps taken, in order (43_queue_dispatch.md R161). -/
  returned : List Handle
deriving DecidableEq, Repr

/-- Why the machine stops with a fault: it never does. The block has no trap (60_exceptions.md, introduction), and its model
faults are the sticky bits of FAULT, set in a next state after which other steps may follow (R200; 93 row 21). -/
inductive Fault where
deriving DecidableEq, Repr

/-- Why a step is refused. -/
inductive Refusal where
  /-- An operation without a meaning: raised by no arm of `exec`. Safe. -/
  | notModelled (mnemonic : String)
  /-- The configuration is ill formed: "The model refuses an ill-formed configuration and gives it no meaning" (00_scope.md
  R9; 93 row 19). Raised by every operation and by an illegal word. Safe. -/
  | illFormedConfig
  /-- The operation is not enabled: "A disabled operation has no step, and a trace that names it at a point where it is
  disabled is not a run" (30_encoding.md R76; 93 row 20). Raised by TIMER_TICK, UPD_ISR, CMP_ISR, ENGINE_BYTE and TC_ISR.
  Safe. -/
  | notEnabled
  /-- The schedule names no further operation: no agent takes a step (70_reset_and_hazards.md R234: a run is a finite sequence
  of steps). Raised by `step`, by no operation. Safe. -/
  | scheduleEnded
deriving DecidableEq, Repr

/-- The launch state under a configuration: the reset column of 10_state.md R21, FAULT = 0 and empty traces
(70_reset_and_hazards.md R231). Nothing is listed in memory, so the frame buffer reads as its reset content. DESIGN CHOICE: the
queue entries, which the spec leaves unspecified, are 0 (notes/assumptions/7.md), the schedule is empty (2), no draw has been
made (6) and no handle returned (9). -/
def State.launch (c : Config) : State where
  config := c
  schedule := []
  tstate := .idle
  curReg := 0x00
  latX := 0x00
  latY := 0x00
  timEn := false
  cnt := 0
  updPend := false
  cmpPend := false
  q := List.replicate c.qcap 0
  qHead := 0
  qTail := 0
  qCount := 0
  engBusy := false
  tcPend := false
  txPtr := 0
  txRem := 0
  fault := 0
  mem := []
  busCmd := []
  txOut := []
  draws := 0
  returned := []

/-- The machine right after reset, under the configuration of 95_test_vectors.md section 0 (DESIGN CHOICE, unsafe:
notes/assumptions/1.md; `State.launch` is the same state under every configuration). -/
def State.reset : State := State.launch Config.reference

end Sys2Proof.Machine
end

