-- ==== Sys2Proof/Machine/Flags.lean ====
section
/-! DEFINITION. Flags: the bus event flags and the expected flag of each position (30_encoding.md R78, R79), the fault bits
(R84), the interrupt sources and their pending conditions (60_exceptions.md R207). -/

namespace Sys2Proof.Machine

/-- A bus event flag (30_encoding.md R78). -/
inductive BusFlag where
  | sb
  | addr
  | btf
  | rxne
deriving DecidableEq, Repr

/-- The flag's bit in FLG (30_encoding.md R78). -/
def BusFlag.index : BusFlag → Nat
  | .sb => 0
  | .addr => 1
  | .btf => 2
  | .rxne => 3

/-- Whether a flag is asserted in a flag vector (30_encoding.md R78). -/
def BusFlag.setIn (g : BusFlag) (f : BitVec 4) : Bool := f.getLsbD g.index

/-- The flag vector that asserts one flag and no other (30_encoding.md R78). -/
def BusFlag.only (g : BusFlag) : BitVec 4 := 1#4 <<< g.index

/-- `expect(TSTATE)`, the one event each position waits for (30_encoding.md R79). -/
def expect : TState → Option BusFlag
  | .idle => none
  | .awaitSb1 => some .sb
  | .awaitAddrW => some .addr
  | .awaitBtf => some .btf
  | .awaitSb2 => some .sb
  | .awaitAddrR => some .addr
  | .awaitRxne => some .rxne

/-- Whether a BUS_EVENT performs the row of its position: the position is not IDLE and its expected flag is asserted; every
other bit is ignored (40_bus_fsm.md R101). -/
def rowTaken (st : TState) (f : BitVec 4) : Bool :=
  match expect st with
  | none => false
  | some g => g.setIn f

/-- A model fault (30_encoding.md R84). -/
inductive FaultBit where
  /-- BEGIN_READ while a transaction is in flight (60_exceptions.md R201). -/
  | order
  /-- DEQUEUE on an empty queue (60_exceptions.md R202). -/
  | qEmpty
  /-- An illegal operation word (60_exceptions.md R203). -/
  | rsvd
  /-- ENGINE_START while a transfer is in flight or its completion is unconsumed (60_exceptions.md R204). -/
  | engBusy
deriving DecidableEq, Repr

/-- The bit of FAULT a model fault sets (30_encoding.md R84). -/
def FaultBit.mask : FaultBit → BitVec 4
  | .order => 0b0001#4
  | .qEmpty => 0b0010#4
  | .rsvd => 0b0100#4
  | .engBusy => 0b1000#4

/-- An interrupt source (60_exceptions.md R207). -/
inductive IrqSource where
  | update
  | compare
  | busEvent
  | transferComplete
deriving DecidableEq, Repr

/-- Whether a source's handler may be taken: its pending bit, except that the block holds none for a bus event, which is always
delivered (60_exceptions.md R207, R208; 30_encoding.md R76). -/
def pending (src : IrqSource) (s : State) : Bool :=
  match src with
  | .update => s.updPend
  | .compare => s.cmpPend
  | .busEvent => true
  | .transferComplete => s.tcPend

end Sys2Proof.Machine
end

