-- ==== Sys2Proof/Machine/Operands.lean ====
section
/-! DEFINITION. The operands the rules compute: bus command codes, the address byte, frame offsets, decimal digits, the reset
content of the frame, ring indices, the counter (30_encoding.md R80-R83; 42_formatter.md R150; 43_queue_dispatch.md R160). -/

namespace Sys2Proof.Machine

/-- The 3-bit code of a position (30_encoding.md R77). -/
def TState.code : TState → BitVec 3
  | .idle => 0
  | .awaitSb1 => 1
  | .awaitAddrW => 2
  | .awaitBtf => 3
  | .awaitSb2 => 4
  | .awaitAddrR => 5
  | .awaitRxne => 6

/-- The position a code names; code 7 is unused (30_encoding.md R77). -/
def TState.ofCode? (c : BitVec 3) : Option TState :=
  match c.toNat with
  | 0 => some .idle
  | 1 => some .awaitSb1
  | 2 => some .awaitAddrW
  | 3 => some .awaitBtf
  | 4 => some .awaitSb2
  | 5 => some .awaitAddrR
  | 6 => some .awaitRxne
  | _ => none

/-- A bus command (30_encoding.md R80). -/
inductive BusCmd where
  | start
  | stop
  | write (b : Byte)
  | clearAddr
  | ackOff
  | readDr (b : Byte)
deriving DecidableEq, Repr

/-- The 16-bit code of a bus command: the kind in bits 15:8, the byte in bits 7:0 (30_encoding.md R80). -/
def BusCmd.code : BusCmd → CmdCode
  | .start => 0x0100#16
  | .stop => 0x0200#16
  | .write b => 0x03#8 ++ b
  | .clearAddr => 0x0400#16
  | .ackOff => 0x0500#16
  | .readDr b => 0x06#8 ++ b

/-- `A_W = (P_DEV_ADDR << 1) | 0` (30_encoding.md R81). -/
def addrWrite (c : Config) : Byte := (c.devAddr <<< 1) ||| 0#8

/-- `A_R = (P_DEV_ADDR << 1) | 1` (30_encoding.md R81). -/
def addrRead (c : Config) : Byte := (c.devAddr <<< 1) ||| 1#8

/-- The frame offset of an axis's field: 1 for X, 5 for Y (42_formatter.md R150). -/
def fieldOffset : Axis → Nat
  | .x => 1
  | .y => 5

/-- The three ASCII digits of a reading, hundreds first, by repeated remainder and division by ten (42_formatter.md R150;
30_encoding.md R83). -/
def digitBytes (v : Byte) : List Byte :=
  let u := v.toNat % 10
  let v1 := v.toNat / 10
  let t := v1 % 10
  let v2 := v1 / 10
  let h := v2 % 10
  [BitVec.ofNat 8 (0x30 + h), BitVec.ofNat 8 (0x30 + t), BitVec.ofNat 8 (0x30 + u)]

/-- `INIT`, the content RESET writes into the frame buffer (70_reset_and_hazards.md R230; 30_encoding.md R82). -/
def frameInit (c : Config) : List Byte :=
  [0x58#8, 0x30#8, 0x30#8, 0x30#8, 0x59#8, 0x30#8, 0x30#8, 0x30#8, 0x0D#8, 0x0A#8, c.termByte]

/-- The index after `i` in the ring of P_QCAP entries (43_queue_dispatch.md R160, R161). -/
def nextIndex (c : Config) (i : Nat) : Nat := (i + 1) % c.qcap

/-- The counter's next value short of a rollover, held in P_CNT_W bits (41_scheduler.md R131; 60_exceptions.md R216). DEDUCED:
the register's width truncates (notes/assumptions/10.md); below P_PERIOD it never does (00_scope.md R9). -/
def nextCount (c : Config) (n : Nat) : Nat := (n + 1) % 2 ^ c.cntW

end Sys2Proof.Machine
end

