-- ==== Sys2Proof/WellFormed.lean ====
section
/-! DEFINITION. The well-formed configurations (00_scope.md R9). An operation needs no check of its own: its operands have the
widths of their fields, and every value of a used field is allowed (30_encoding.md R73), so every term of Instr is well formed.
Which words are legal is the decoder's business (Sys2Proof/Decode.lean). -/

namespace Sys2Proof

/-- The seven conditions of 00_scope.md R9, in its order. -/
def Config.check (c : Config) : Bool :=
  decide (1 ≤ c.qcap) &&
  decide (2 ≤ c.period ∧ c.period ≤ 2 ^ c.cntW) &&
  decide (1 ≤ c.cmp ∧ c.cmp ≤ c.period - 1) &&
  decide (c.regX ≠ c.regY) &&
  decide (c.devAddr.toNat ≤ 0x7F) &&
  decide (c.frameBase.toNat + frameLen - 1 ≤ 2 ^ addrWidth - 1) &&
  decide (c.txLen = frameLen)

/-- A well-formed configuration (00_scope.md R9). -/
abbrev Config.WellFormed (c : Config) : Prop := c.check = true

end Sys2Proof
end

