-- ==== Sys2Proof/Machine/Ops.lean ====
section
/-! DEFINITION. The shared operations of the rules (00_scope.md R10): memory, the traces, raising a fault, entering and leaving
an interrupt handler, and what every operation asks before it runs (R9; 30_encoding.md R76). -/

namespace Sys2Proof.Machine

/-- What an address that memory does not list reads as: in the frame buffer its reset content (70_reset_and_hazards.md R230), and
elsewhere nothing the block determines (20_memory.md R53). -/
def Memory.unlisted (c : Config) (a : Nat) : Option Byte :=
  if c.frameBase.toNat ≤ a then (frameInit c)[a - c.frameBase.toNat]? else none

/-- The byte listed at an address. -/
def Memory.lookup : Memory → Nat → Option Byte
  | [], _ => none
  | (x, v) :: m, a => if a = x then some v else lookup m a

/-- The list with the byte at an address put in its place. -/
def Memory.insert : Memory → Nat → Byte → Memory
  | [], a, b => [(a, b)]
  | (x, v) :: m, a, b =>
    if a < x then (a, b) :: (x, v) :: m
    else if a = x then (a, b) :: m
    else (x, v) :: insert m a b

/-- The list without an address. -/
def Memory.erase (m : Memory) (a : Nat) : Memory := m.filter (fun p => p.1 != a)

/-- `MemRead(addr, 1)` where the block determines the byte, which is in the frame buffer; `none` elsewhere
(00_scope.md R10; 20_memory.md R51, R53). -/
def Memory.read (c : Config) (m : Memory) (a : Nat) : Option Byte :=
  match Memory.unlisted c a with
  | none => none
  | some d => some ((Memory.lookup m a).getD d)

/-- `MemWrite(addr, 1, v)` (00_scope.md R10), which keeps the canonical form. Outside the frame buffer the block never writes
(20_memory.md R53), and there is nothing to keep. -/
def Memory.write (c : Config) (m : Memory) (a : Nat) (b : Byte) : Memory :=
  match Memory.unlisted c a with
  | none => m
  | some d => if b = d then Memory.erase m a else Memory.insert m a b

/-- The canonical form: addresses strictly rising, every one in the frame buffer, and no entry equal to what its address reads as
when unlisted. -/
abbrev Memory.wf (c : Config) (m : Memory) : Prop :=
  m.Pairwise (fun p r => p.1 < r.1) ∧ ∀ p ∈ m, Memory.unlisted c p.1 ≠ none ∧ Memory.unlisted c p.1 ≠ some p.2

/-- The byte at an address, where the block determines it. -/
def State.readByte (s : State) (a : Nat) : Option Byte := Memory.read s.config s.mem a

/-- `FRAME[i]`, the byte at `P_FRAME_BASE + i` (20_memory.md R51). -/
def State.frame (s : State) (i : Nat) : Option Byte := s.readByte (s.config.frameBase.toNat + i)

/-- One byte written (00_scope.md R10, `MemWrite`). -/
def State.memWrite (s : State) (a : Nat) (b : Byte) : State := { s with mem := Memory.write s.config s.mem a b }

/-- Bytes written at ascending addresses, one byte access each (20_memory.md R52). -/
def State.writeBytes (s : State) (a : Nat) : List Byte → State
  | [] => s
  | b :: bs => (s.memWrite a b).writeBytes (a + 1) bs

/-- A byte the engine reads: the memory's in the frame buffer, elsewhere a free draw of the step (20_memory.md R53, R60). -/
def State.engineRead (s : State) (a : Nat) : Byte × State :=
  match s.readByte a with
  | some b => (b, s)
  | none => (Config.freeByte s.draws, { s with draws := s.draws + 1 })

/-- `emit_cmd(c)`: append to BUSCMD (00_scope.md R10; 30_encoding.md R80). -/
def State.emitCmd (s : State) (c : BusCmd) : State := { s with busCmd := s.busCmd ++ [c.code] }

/-- `emit_tx(b)`: append to TXOUT (00_scope.md R10). -/
def State.emitTx (s : State) (b : Byte) : State := { s with txOut := s.txOut ++ [b] }

/-- `raise Fault(F)`: set a sticky bit (60_exceptions.md R200). This is the whole of taking a model fault: no register is saved
and no control moves (R212). -/
def State.raiseFault (s : State) (f : FaultBit) : State := { s with fault := s.fault ||| f.mask }

/-- An interrupt condition arises: its pending bit is set, and a bit already set stays set (10_state.md R28; 60_exceptions.md
R207, R213). The block holds no condition for a bus event. -/
def State.setPending (s : State) (src : IrqSource) : State :=
  match src with
  | .update => { s with updPend := true }
  | .compare => { s with cmpPend := true }
  | .busEvent => s
  | .transferComplete => { s with tcPend := true }

/-- Entering a handler: it saves nothing and clears its source's pending bit (60_exceptions.md R207, R212). -/
def State.enterHandler (s : State) (src : IrqSource) : State :=
  match src with
  | .update => { s with updPend := false }
  | .compare => { s with cmpPend := false }
  | .busEvent => s
  | .transferComplete => { s with tcPend := false }

/-- Returning from a handler: it restores nothing, because nothing was saved (60_exceptions.md R213). -/
def State.leaveHandler (s : State) : State := s

/-- Whether an operation can be taken (30_encoding.md R76). -/
def enabled (i : Instr) (s : State) : Bool :=
  match i with
  | .reset => true
  | .timerStart => true
  | .timerTick => s.timEn
  | .updIsr => pending .update s
  | .cmpIsr => pending .compare s
  | .busEvent _ _ => pending .busEvent s
  | .engineByte => decide (0 < s.txRem)
  | .tcIsr => pending .transferComplete s
  | .beginRead _ => true
  | .format _ _ => true
  | .submit _ => true
  | .enqueue _ => true
  | .dequeue => true
  | .engineStart _ => true

/-- One operation: refused under an ill-formed configuration (00_scope.md R9), refused where it is not enabled (30_encoding.md
R76), and otherwise one indivisible step with its rule's effect (00_scope.md R10). -/
def perform (i : Instr) (effect : State → State) (s : State) : Host.Outcome State Fault Refusal :=
  if s.config.check then
    if enabled i s then .next (effect s) else .refused .notEnabled
  else .refused .illFormedConfig

/-- An illegal word: always enabled, it raises F_RSVD and does nothing else (30_encoding.md R74, R76; 60_exceptions.md R203). -/
def performIllegal (s : State) : Host.Outcome State Fault Refusal :=
  if s.config.check then .next (s.raiseFault .rsvd) else .refused .illFormedConfig

/-- The next word an agent presents, and the state that has taken it (00_scope.md R12; 20_memory.md R59). -/
def fetchWord (s : State) : Option (OpWord × State) :=
  match s.schedule with
  | [] => none
  | w :: ws => some (w, { s with schedule := ws })

/-- A word presented before all others: the low `nbits` bits of `w`, the bits above them zero. -/
def presentWord (s : State) (nbits w : Nat) : State :=
  { s with schedule := BitVec.ofNat 64 (w % 2 ^ nbits) :: s.schedule }

end Sys2Proof.Machine
end

