-- ==== Sys2Proof/Machine/ResetOp.lean ====
section
/-! DEFINITION. The RESET operation (70_reset_and_hazards.md R230). -/

namespace Sys2Proof.Machine

/-- The registers take their reset values; the queue's entries, FAULT, BUSCMD and TXOUT keep theirs (70_reset_and_hazards.md
R230). -/
def State.resetRegisters (s : State) : State :=
  { s with
    tstate := .idle, curReg := 0x00, latX := 0x00, latY := 0x00
    timEn := false, cnt := 0, updPend := false, cmpPend := false
    qHead := 0, qTail := 0, qCount := 0
    engBusy := false, tcPend := false, txPtr := 0, txRem := 0 }

/-- The registers, then the frame buffer byte by byte (70_reset_and_hazards.md R230). -/
def State.resetBlock (s : State) : State :=
  s.resetRegisters.writeBytes s.config.frameBase.toNat (frameInit s.config)

/-- RESET (70_reset_and_hazards.md R230). -/
def execReset (s : State) : Host.Outcome State Fault Refusal :=
  perform .reset State.resetBlock s

end Sys2Proof.Machine
end

