-- ==== Sys2Proof/Machine/BusFsm.lean ====
section
/-! DEFINITION. The bus protocol state machine (40_bus_fsm.md R100-R108). -/

namespace Sys2Proof.Machine

/-- `BEGIN_READ r` as a rule calls it (40_bus_fsm.md R100). -/
def State.beginRead (s : State) (r : Byte) : State :=
  if s.tstate ≠ .idle then s.raiseFault .order
  else { ({ s with curReg := r }).emitCmd .start with tstate := .awaitSb1 }

/-- Row 1: start condition sent (40_bus_fsm.md R102). -/
def State.row1 (s : State) : State :=
  { s.emitCmd (.write (addrWrite s.config)) with tstate := .awaitAddrW }

/-- Row 2: address acknowledged (40_bus_fsm.md R103). -/
def State.row2 (s : State) : State :=
  { (s.emitCmd .clearAddr).emitCmd (.write s.curReg) with tstate := .awaitBtf }

/-- Row 3: byte transfer complete, repeated start (40_bus_fsm.md R104). -/
def State.row3 (s : State) : State :=
  { s.emitCmd .start with tstate := .awaitSb2 }

/-- Row 4: start condition sent for the second time (40_bus_fsm.md R105). -/
def State.row4 (s : State) : State :=
  { (s.emitCmd (.write (addrRead s.config))).emitCmd .ackOff with tstate := .awaitAddrR }

/-- Row 5: address acknowledged; no CLEAR_ADDR is issued (40_bus_fsm.md R106). -/
def State.row5 (s : State) : State :=
  { s.emitCmd .stop with tstate := .awaitRxne }

/-- The received byte goes to the latch of the register read, or to none (40_bus_fsm.md R107). -/
def State.latch (s : State) (d : Byte) : State :=
  if s.curReg = s.config.regX then { s with latX := d }
  else if s.curReg = s.config.regY then { s with latY := d }
  else s

/-- Row 6: receive buffer not empty (40_bus_fsm.md R107). -/
def State.row6 (s : State) (d : Byte) : State :=
  { ((s.emitCmd (.readDr d)).latch d).emitCmd .stop with tstate := .idle }

/-- The fallback: STOP, and back to IDLE (40_bus_fsm.md R108). -/
def State.fallback (s : State) : State :=
  { s.emitCmd .stop with tstate := .idle }

/-- The row of the current position (40_bus_fsm.md R101). IDLE has no row. -/
def State.performRow (s : State) (d : Byte) : State :=
  match s.tstate with
  | .idle => s.fallback
  | .awaitSb1 => s.row1
  | .awaitAddrW => s.row2
  | .awaitBtf => s.row3
  | .awaitSb2 => s.row4
  | .awaitAddrR => s.row5
  | .awaitRxne => s.row6 d

/-- One invocation of the bus event handler (40_bus_fsm.md R101). -/
def State.busEvent (s : State) (f : BitVec 4) (d : Byte) : State :=
  let s := s.enterHandler .busEvent
  (if rowTaken s.tstate f then s.performRow d else s.fallback).leaveHandler

/-- BEGIN_READ (40_bus_fsm.md R100). -/
def execBeginRead (r : Byte) (s : State) : Host.Outcome State Fault Refusal :=
  perform (.beginRead r) (fun s => s.beginRead r) s

/-- BUS_EVENT (40_bus_fsm.md R101). -/
def execBusEvent (f : BitVec 4) (d : Byte) (s : State) : Host.Outcome State Fault Refusal :=
  perform (.busEvent f d) (fun s => s.busEvent f d) s

end Sys2Proof.Machine
end

