-- ==== Sys2Proof/Machine/Formatter.lean ====
section
/-! DEFINITION. The frame formatter (42_formatter.md R150-R153). -/

namespace Sys2Proof.Machine

/-- `FORMAT ax, v` as a rule calls it: three digits into the axis's field (42_formatter.md R150). -/
def State.format (s : State) (ax : Axis) (v : Byte) : State :=
  s.writeBytes (s.config.frameBase.toNat + fieldOffset ax) (digitBytes v)

/-- FORMAT (42_formatter.md R150). -/
def execFormat (ax : Axis) (v : Byte) (s : State) : Host.Outcome State Fault Refusal :=
  perform (.format ax v) (fun s => s.format ax v) s

end Sys2Proof.Machine
end

