-- ==== Sys2Proof/Machine/Queue.lean ====
section
/-! DEFINITION. The pending-output queue, the dispatch and the transfer engine's interface (43_queue_dispatch.md R160-R166). -/

namespace Sys2Proof.Machine

/-- `ENQUEUE h` as a rule calls it: at the tail, or dropped when the queue is full (43_queue_dispatch.md R160). -/
def State.enqueue (s : State) (h : Handle) : State :=
  if s.qCount = s.config.qcap then s
  else { s with q := s.q.set s.qTail h, qTail := nextIndex s.config s.qTail, qCount := s.qCount + 1 }

/-- The entry at an index of the queue's storage (10_state.md R29). -/
def State.entry (s : State) (i : Nat) : Handle := (s.q[i]?).getD (Config.strayHandle i)

/-- `DEQUEUE` as a rule calls it: the handle it returns, if any, and the state after (43_queue_dispatch.md R161). -/
def State.dequeue (s : State) : Option Handle × State :=
  if s.qCount = 0 then (none, s.raiseFault .qEmpty)
  else (some (s.entry s.qHead), { s with qHead := nextIndex s.config s.qHead, qCount := s.qCount - 1 })

/-- `ENGINE_START h` as a rule calls it (43_queue_dispatch.md R164). -/
def State.engineStart (s : State) (h : Handle) : State :=
  if s.txRem ≠ 0 ∨ s.tcPend = true then s.raiseFault .engBusy
  else { s with engBusy := true, txPtr := h, txRem := s.config.txLen }

/-- `SUBMIT h` as a rule calls it (43_queue_dispatch.md R163). -/
def State.submit (s : State) (h : Handle) : State :=
  if s.engBusy = false ∧ s.tcPend = false then s.engineStart h else s.enqueue h

/-- One byte to the transport, and the completion flag after the last (43_queue_dispatch.md R165; 20_memory.md R65). -/
def State.engineByte (s : State) : State :=
  let (b, s) := s.engineRead s.txPtr.toNat
  let s := s.emitTx b
  let s := { s with txPtr := s.txPtr + 1, txRem := s.txRem - 1 }
  if s.txRem = 0 then s.setPending .transferComplete else s

/-- The transfer-complete handler (43_queue_dispatch.md R166). -/
def State.transferComplete (s : State) : State :=
  let s := s.enterHandler .transferComplete
  (if 0 < s.qCount then
    match s.dequeue with
    | (some h, s) => s.engineStart h
    | (none, s) => s
  else { s with engBusy := false }).leaveHandler

/-- A unit-mode DEQUEUE: its handle is the step's output label (43_queue_dispatch.md R161). -/
def State.dequeueLabelled (s : State) : State :=
  match s.dequeue with
  | (some h, s) => { s with returned := s.returned ++ [h] }
  | (none, s) => s

/-- ENQUEUE (43_queue_dispatch.md R160). -/
def execEnqueue (h : Handle) (s : State) : Host.Outcome State Fault Refusal :=
  perform (.enqueue h) (fun s => s.enqueue h) s

/-- DEQUEUE (43_queue_dispatch.md R161). -/
def execDequeue (s : State) : Host.Outcome State Fault Refusal :=
  perform .dequeue State.dequeueLabelled s

/-- SUBMIT (43_queue_dispatch.md R163). -/
def execSubmit (h : Handle) (s : State) : Host.Outcome State Fault Refusal :=
  perform (.submit h) (fun s => s.submit h) s

/-- ENGINE_START (43_queue_dispatch.md R164). -/
def execEngineStart (h : Handle) (s : State) : Host.Outcome State Fault Refusal :=
  perform (.engineStart h) (fun s => s.engineStart h) s

/-- ENGINE_BYTE (43_queue_dispatch.md R165). -/
def execEngineByte (s : State) : Host.Outcome State Fault Refusal :=
  perform .engineByte State.engineByte s

/-- TC_ISR (43_queue_dispatch.md R166). -/
def execTcIsr (s : State) : Host.Outcome State Fault Refusal :=
  perform .tcIsr State.transferComplete s

end Sys2Proof.Machine
end

