-- ==== Sys2Proof/Machine/Scheduler.lean ====
section
/-! DEFINITION. The sampling scheduler: the timer and its two handlers (41_scheduler.md R130-R134). -/

namespace Sys2Proof.Machine

/-- Start the timer (41_scheduler.md R130). -/
def State.timerStart (s : State) : State :=
  let s := { s with timEn := true }
  if s.config.timerInitUpdate then s.setPending .update else s

/-- One count of the timer; the compare reads the incremented value (41_scheduler.md R131). -/
def State.timerTick (s : State) : State :=
  if s.cnt = s.config.period - 1 then ({ s with cnt := 0 }).setPending .update
  else
    let s := { s with cnt := nextCount s.config s.cnt }
    if s.cnt = s.config.cmp then s.setPending .compare else s

/-- The update-event handler (41_scheduler.md R133). -/
def State.updateHandler (s : State) : State :=
  let s := s.enterHandler .update
  let s := s.beginRead s.config.regX
  (s.format .x s.latX).leaveHandler

/-- The compare-match handler (41_scheduler.md R134). -/
def State.compareHandler (s : State) : State :=
  let s := s.enterHandler .compare
  let s := s.beginRead s.config.regY
  let s := s.format .y s.latY
  (s.submit s.config.frameBase).leaveHandler

/-- TIMER_START (41_scheduler.md R130). -/
def execTimerStart (s : State) : Host.Outcome State Fault Refusal :=
  perform .timerStart State.timerStart s

/-- TIMER_TICK (41_scheduler.md R131). -/
def execTimerTick (s : State) : Host.Outcome State Fault Refusal :=
  perform .timerTick State.timerTick s

/-- UPD_ISR (41_scheduler.md R133). -/
def execUpdIsr (s : State) : Host.Outcome State Fault Refusal :=
  perform .updIsr State.updateHandler s

/-- CMP_ISR (41_scheduler.md R134). -/
def execCmpIsr (s : State) : Host.Outcome State Fault Refusal :=
  perform .cmpIsr State.compareHandler s

end Sys2Proof.Machine
end

