-- ==== Sys2Proof/Machine/Dispatch.lean ====
section
/-! DEFINITION. The dispatch of the operations to their meanings, one arm per constructor (30_encoding.md R72). -/

namespace Sys2Proof.Machine

def exec (i : Instr) (s : State) : Host.Outcome State Fault Refusal :=
  match i with
  | .reset => Sys2Proof.Machine.execReset s
  | .timerStart => Sys2Proof.Machine.execTimerStart s
  | .timerTick => Sys2Proof.Machine.execTimerTick s
  | .updIsr => Sys2Proof.Machine.execUpdIsr s
  | .cmpIsr => Sys2Proof.Machine.execCmpIsr s
  | .busEvent f d => Sys2Proof.Machine.execBusEvent f d s
  | .engineByte => Sys2Proof.Machine.execEngineByte s
  | .tcIsr => Sys2Proof.Machine.execTcIsr s
  | .beginRead r => Sys2Proof.Machine.execBeginRead r s
  | .format ax v => Sys2Proof.Machine.execFormat ax v s
  | .submit h => Sys2Proof.Machine.execSubmit h s
  | .enqueue h => Sys2Proof.Machine.execEnqueue h s
  | .dequeue => Sys2Proof.Machine.execDequeue s
  | .engineStart h => Sys2Proof.Machine.execEngineStart h s

end Sys2Proof.Machine
end

