-- ==== Sys2Proof/Machine/Step.lean ====
section
/-! DEFINITION. One step of the block: the next word of the schedule, decoded and run (00_scope.md R12; 30_encoding.md R70). -/

namespace Sys2Proof.Machine

/-- One step: an operation of the agent whose word is next, or F_RSVD for an illegal word (30_encoding.md R70, R74). With no word
left no agent takes a step (notes/assumptions/3.md). -/
def step (s : State) : Host.Outcome State Fault Refusal :=
  match fetchWord s with
  | none => .refused .scheduleEnded
  | some (w, s) =>
    match decode w with
    | .ok i => exec i s
    | .error _ => performIllegal s

/-- `s` with one word presented before all others, so that the next step runs it (notes/assumptions/2.md). -/
def State.withFetchWord (s : State) (nbits w : Nat) : State := presentWord s nbits w

end Sys2Proof.Machine
end

