-- ==== Sys2Proof/Safety.lean ====
section
/-! DEFINITION. What a good state, a launch and a run are, and the premises a claim may take (10_state.md R40; 60_exceptions.md
R200; 70_reset_and_hazards.md R231-R243; 40_bus_fsm.md R113). -/

namespace Sys2Proof.Machine

/-- A good state: no model fault (60_exceptions.md R200). -/
abbrev State.Good (s : State) : Prop := s.fault = 0

/-- Invariant 1 of 10_state.md R40, with the ranges of 10_state.md R21. -/
abbrev State.QueueInv (s : State) : Prop :=
  s.q.length = s.config.qcap ∧ s.qHead < s.config.qcap ∧ s.qCount ≤ s.config.qcap ∧
  s.qTail = (s.qHead + s.qCount) % s.config.qcap

/-- Invariants 3 to 6 of 10_state.md R40, with the range of TX_REM (10_state.md R21). -/
abbrev State.EngineInv (s : State) : Prop :=
  (0 < s.txRem → s.engBusy = true ∧ s.tcPend = false) ∧
  (s.tcPend = true → s.engBusy = true ∧ s.txRem = 0) ∧
  (s.engBusy = false → s.txRem = 0 ∧ s.tcPend = false) ∧
  (s.engBusy = true → 0 < s.txRem ∨ s.tcPend = true) ∧
  s.txRem ≤ s.config.txLen

/-- Invariant 7 of 10_state.md R40. -/
abbrev State.TimerInv (s : State) : Prop := s.cnt ≤ s.config.period - 1

/-- What the byte at an offset of a frame may be (10_state.md R40, invariant 8; 30_encoding.md R82). -/
def frameByteOk (c : Config) (i : Nat) (b : Byte) : Bool :=
  match i with
  | 0 => b == 0x58
  | 1 => decide (0x30 ≤ b.toNat ∧ b.toNat ≤ 0x32)
  | 4 => b == 0x59
  | 5 => decide (0x30 ≤ b.toNat ∧ b.toNat ≤ 0x32)
  | 8 => b == 0x0D
  | 9 => b == 0x0A
  | 10 => b == c.termByte
  | _ => decide (0x30 ≤ b.toNat ∧ b.toNat ≤ 0x39)

/-- Invariant 8 of 10_state.md R40. -/
abbrev State.FrameInv (s : State) : Prop :=
  ∀ i < frameLen, (s.frame i).any (frameByteOk s.config i) = true

/-- The invariants of 10_state.md R40 (but for 2, which speaks of a run's history) with the well-formed configuration they are
stated under, and the canonical form of memory. -/
abbrev State.Inv (s : State) : Prop :=
  s.config.WellFormed ∧ s.QueueInv ∧ s.EngineInv ∧ s.TimerInv ∧ s.FrameInv ∧ Memory.wf s.config s.mem

/-- The handles the queue holds, oldest first: the entries `Q[(Q_HEAD + i) mod P_QCAP]` for `0 <= i < Q_COUNT` (10_state.md R40,
invariant 2). -/
def State.contents (s : State) : List Handle :=
  (List.range s.qCount).map (fun i => s.entry ((s.qHead + i) % s.config.qcap))

/-- `LaunchClean`: the state right after a RESET with FAULT = 0, both traces empty and a well-formed configuration, whatever the
queue's entries and whatever the agents will do (70_reset_and_hazards.md R231). -/
abbrev State.LaunchClean (s : State) : Prop :=
  s.config.WellFormed ∧ s.q.length = s.config.qcap ∧
  s = { State.launch s.config with schedule := s.schedule, q := s.q, draws := s.draws, returned := s.returned }

/-- The words of a list of operations (30_encoding.md R85). -/
def scheduleOf (ops : List Instr) : List OpWord := ops.map encode

/-- The operation the next step runs, if its word is legal. -/
def State.nextOp (s : State) : Option Instr :=
  match s.schedule with
  | [] => none
  | w :: _ => (decode w).toOption

/-- The operation code of an operation (30_encoding.md R72). -/
def opcodeOf : Instr → Opcode
  | .reset => .reset
  | .timerStart => .timerStart
  | .timerTick => .timerTick
  | .updIsr => .updIsr
  | .cmpIsr => .cmpIsr
  | .busEvent _ _ => .busEvent
  | .engineByte => .engineByte
  | .tcIsr => .tcIsr
  | .beginRead _ => .beginRead
  | .format _ _ => .format
  | .submit _ => .submit
  | .enqueue _ => .enqueue
  | .dequeue => .dequeue
  | .engineStart _ => .engineStart

/-- Some steps of a run. -/
abbrev runSteps (k : Nat) (s : State) : Host.Outcome State Fault Refusal := Sys2Proof.core.run k s

/-- A condition holds in each of the first `k` states a run steps from. -/
def runHolds (P : State → Bool) : Nat → State → Bool
  | 0, _ => true
  | k + 1, s =>
    P s &&
      match step s with
      | .next t => runHolds P k t
      | .fault _ => true
      | .refused _ => true

/-- System mode: the next step is a system operation; no unit operation and no illegal word is issued (30_encoding.md R75;
60_exceptions.md R223). -/
def systemStep (s : State) : Bool :=
  match s.nextOp with
  | some i => !i.isUnit
  | none => false

/-- The next step is no RESET. -/
def noResetStep (s : State) : Bool := s.nextOp != some .reset

/-- `TransactionsComplete`: a timer handler is taken only in IDLE (70_reset_and_hazards.md R235). -/
def transactionsCompleteStep (s : State) : Bool :=
  match s.nextOp with
  | some .updIsr => s.tstate == .idle
  | some .cmpIsr => s.tstate == .idle
  | _ => true

/-- `WellBehavedBus`: an event arrives only when the last command calls for one, and asserts that one flag
(40_bus_fsm.md R113; notes/assumptions/17.md). In IDLE no event arrives, so `NoBusEventBeforeStart` (70_reset_and_hazards.md
R242) follows. DESIGN CHOICE (notes/assumptions/20.md): R113 does not say whether a command issued before a RESET, whose
transaction the RESET abandons, still gets its event; here it gets none, because RESET leaves TSTATE in IDLE. -/
def wellBehavedBusStep (s : State) : Bool :=
  match s.nextOp with
  | some (.busEvent f _) =>
    match expect s.tstate with
    | some g => f == g.only
    | none => false
  | _ => true

/-- The ten commands of one canonical transaction that reads register `r` and receives `d` (40_bus_fsm.md R109). -/
def canonicalCommands (c : Config) (r d : Byte) : List CmdCode :=
  [0x0100#16, 0x03#8 ++ (c.devAddr.extractLsb' 0 7 ++ 0#1), 0x0400#16, 0x03#8 ++ r, 0x0100#16,
    0x03#8 ++ (c.devAddr.extractLsb' 0 7 ++ 1#1), 0x0500#16, 0x0200#16, 0x06#8 ++ d, 0x0200#16]

/-- How many of a transaction's ten commands have been issued in each position (40_bus_fsm.md R100-R107). -/
def commandsIssued : TState → Nat
  | .idle => 0
  | .awaitSb1 => 1
  | .awaitAddrW => 2
  | .awaitBtf => 4
  | .awaitSb2 => 5
  | .awaitAddrR => 7
  | .awaitRxne => 8

/-- The command trace of a system-mode run on a well-behaved bus: whole transactions of the two axes, and then the commands issued
so far of the one in flight, which reads one of the two registers (40_bus_fsm.md R109, R113). -/
def State.CanonicalTrace (s : State) : Prop :=
  (s.tstate ≠ .idle → s.curReg = s.config.regX ∨ s.curReg = s.config.regY) ∧
  ∃ done : List (Byte × Byte), (∀ p ∈ done, p.1 = s.config.regX ∨ p.1 = s.config.regY) ∧
    s.busCmd = done.flatMap (fun p => canonicalCommands s.config p.1 p.2) ++
      (canonicalCommands s.config s.curReg 0).take (commandsIssued s.tstate)

/-- The output path of a system-mode run: the invariants, the one frame buffer behind every queued handle and the transfer in
flight, and TXOUT a row of frames (43_queue_dispatch.md R167, R168; 30_encoding.md R82). -/
def State.OutputFramed (s : State) : Prop :=
  s.Inv ∧ (∀ h ∈ s.contents, h = s.config.frameBase) ∧
  (0 < s.txRem → s.txPtr.toNat = s.config.frameBase.toNat + (frameLen - s.txRem)) ∧
  (s.txOut.length + s.txRem) % frameLen = 0 ∧
  ∀ (n : Nat) (b : Byte), s.txOut[n]? = some b → frameByteOk s.config (n % frameLen) b = true

/-- The bus events among some operations, in order. -/
def busEventsIn (ops : List Instr) : List (BitVec 4 × Byte) :=
  ops.filterMap (fun i => match i with
    | .busEvent f d => some (f, d)
    | _ => none)

/-- The events a well-behaved bus delivers for one transaction that receives `d`: the six flags one by one, and `d` with the last
(40_bus_fsm.md R109, R113; 30_encoding.md R78). -/
abbrev wholeTransaction (d : Byte) (events : List (BitVec 4 × Byte)) : Prop :=
  events.map Prod.fst = [0b0001#4, 0b0010#4, 0b0100#4, 0b0001#4, 0b0010#4, 0b1000#4] ∧
  events.getLast?.map Prod.snd = some d

/-- Steps that may stand between two timer handlers of a system-mode run without a RESET: TIMER_START and the timer's ticks, bus
events, the engine's bytes and TC_ISR (30_encoding.md R75). -/
abbrev betweenHandlers (ops : List Instr) : Prop :=
  ∀ i ∈ ops, opcodeOf i ∈ [.timerStart, .timerTick, .busEvent, .engineByte, .tcIsr]

/-- What an address reads as after the three digits of `v` stand in the field at offset `off` (42_formatter.md R150, R151). -/
def State.fieldAfter (s : State) (off : Nat) (v : Byte) (a : Nat) : Option Byte :=
  if a = s.config.frameBase.toNat + off then some (BitVec.ofNat 8 (0x30 + v.toNat / 100))
  else if a = s.config.frameBase.toNat + off + 1 then some (BitVec.ofNat 8 (0x30 + (v.toNat / 10) % 10))
  else if a = s.config.frameBase.toNat + off + 2 then some (BitVec.ofNat 8 (0x30 + v.toNat % 10))
  else s.readByte a

/-- The handles a sequence of ENQUEUE and DEQUEUE accepts, from a queue of capacity `cap` that holds `n`: an ENQUEUE on a full
queue accepts nothing (43_queue_dispatch.md R162). -/
def accepted (cap : Nat) : Nat → List Instr → List Handle
  | _, [] => []
  | n, .enqueue h :: ops => if n = cap then accepted cap n ops else h :: accepted cap (n + 1) ops
  | n, _ :: ops => accepted cap (n - 1) ops

/-- An endless run, each step one operation or, where `ops` names none, an illegal word (70_reset_and_hazards.md R234, R243;
30_encoding.md R76). -/
def EndlessRun (ops : Nat → Option Instr) (states : Nat → State) : Prop :=
  ∀ n, (match ops n with
    | some i => exec i (states n)
    | none => performIllegal (states n)) = .next (states (n + 1))

/-- Weak fairness of an operation: if it stays enabled it is eventually taken (70_reset_and_hazards.md R243). -/
def WeaklyFair (i : Instr) (ops : Nat → Option Instr) (states : Nat → State) : Prop :=
  ∀ k, (∀ n, k ≤ n → enabled i (states n) = true) → ∃ n, k ≤ n ∧ ops n = some i

end Sys2Proof.Machine
end

