-- ==== Sys2Proof/Certificates/Slice0/Obligations.lean ====
section
/-! DEFINITION. The statements for the provers, file by file of spec/. Every statement about a state holds for every
configuration that state carries (00_scope.md R8), and for every schedule. -/

open Sys2Proof Sys2Proof.Machine

/-! ### Encodings and the step (30_encoding.md) -/

/-- Decoding the word of any operation gives it back (30_encoding.md R70-R73). -/
def Obligations.DecodeInvertsEncode : Prop :=
  ∀ i : Instr, decode (encode i) = .ok i

/-- Every word the decoder accepts is the word of what it reads, so no two words name one operation (30_encoding.md R73). -/
def Obligations.EncodeInvertsDecode : Prop :=
  ∀ (w : OpWord) (i : Instr), decode w = .ok i → encode i = w

/-- The decoder accepts exactly the words that match a row of spec/opcode_table.json (30_encoding.md R72-R74). -/
def Obligations.LegalWordsAreTheTablesWords : Prop :=
  ∀ w : OpWord, (∃ i, decode w = .ok i) ↔ ∃ row ∈ opcodeTable, w &&& row.mask = row.pattern

/-- Words of 95_test_vectors.md, one of each family, decode to what they stand for (30_encoding.md R70-R73). -/
def Obligations.SampleWordsDecode : Prop :=
  decode 0x0000000000000000 = .ok .reset ∧
  decode 0x0200000000000000 = .ok .timerTick ∧
  decode 0x05000D9900000000 = .ok (.busEvent 0b1101 0x99) ∧
  decode 0x0800002900000000 = .ok (.beginRead 0x29) ∧
  decode 0x0900102A00000000 = .ok (.format .y 42) ∧
  decode 0x0A00000020000000 = .ok (.submit 0x20000000) ∧
  decode 0x0380000000000000 = .error .reservedBits ∧
  decode 0x0A00002A20000000 = .error .unusedField ∧
  decode 0x0E00000000000000 = .error .reservedOpcode

/-- A step runs the operation whose word is next, at the state that has taken the word (30_encoding.md R70; 00_scope.md R12). -/
def Obligations.StepRunsTheDecodedOperation : Prop :=
  ∀ (s : State) (w : OpWord) (ws : List OpWord) (i : Instr),
    s.schedule = w :: ws → decode w = .ok i → step s = exec i { s with schedule := ws }

/-- A word presented first is the operation the next step runs. The schedule is the model's own (notes/assumptions/2.md). -/
def Obligations.PresentedWordRunsNext : Prop :=
  ∀ (s : State) (i : Instr), step (s.withFetchWord 64 (encode i).toNat) = exec i s

/-- A word whose operation code is reserved, whose reserved field is not zero, or that has a field not zero that its operation
does not use, raises F_RSVD and does nothing else (30_encoding.md R74; 60_exceptions.md R203). -/
def Obligations.IllegalWordOnlyRaisesRsvd : Prop :=
  ∀ (s : State) (w : OpWord) (ws : List OpWord), s.config.WellFormed → s.schedule = w :: ws →
    let opc : Nat := (w.extractLsb' 56 8).toNat
    (0x0E ≤ opc ∨ w.extractLsb' 45 11 ≠ 0 ∨ (w.extractLsb' 44 1 ≠ 0 ∧ opc ≠ 0x09) ∨
      (w.extractLsb' 40 4 ≠ 0 ∧ opc ≠ 0x05) ∨ (w.extractLsb' 32 8 ≠ 0 ∧ opc ∉ [0x05, 0x08, 0x09]) ∨
      (w.extractLsb' 0 32 ≠ 0 ∧ opc ∉ [0x0A, 0x0B, 0x0D])) →
    step s = .next { s with schedule := ws, fault := s.fault ||| 0b0100#4 }

/-- A configuration is well formed when the seven conditions hold, and an ill-formed one is refused by every operation and by an
illegal word (00_scope.md R9). -/
def Obligations.IllFormedConfigurationIsRefused : Prop :=
  (∀ c : Config, c.WellFormed ↔
    1 ≤ c.qcap ∧ (2 ≤ c.period ∧ c.period ≤ 2 ^ c.cntW) ∧ (1 ≤ c.cmp ∧ c.cmp ≤ c.period - 1) ∧ c.regX ≠ c.regY ∧
      c.devAddr.toNat ≤ 0x7F ∧ c.frameBase.toNat + 11 - 1 ≤ 2 ^ 32 - 1 ∧ c.txLen = 11) ∧
  ∀ s : State, ¬ s.config.WellFormed →
    (∀ i, exec i s = .refused .illFormedConfig) ∧ (s.schedule ≠ [] → step s = .refused .illFormedConfig)

/-- Under a well-formed configuration an operation has a step exactly when it is enabled, and an illegal word always has one
(30_encoding.md R76). -/
def Obligations.OperationsStepExactlyWhenEnabled : Prop :=
  ∀ (i : Instr) (s : State), s.config.WellFormed →
    let open_ : Prop := match opcodeOf i with
      | .timerTick => s.timEn = true
      | .updIsr => s.updPend = true
      | .cmpIsr => s.cmpPend = true
      | .engineByte => 0 < s.txRem
      | .tcIsr => s.tcPend = true
      | _ => True
    (open_ → ∃ t, exec i s = .next t) ∧ (¬ open_ → exec i s = .refused .notEnabled) ∧
      ∀ (w : OpWord) (ws : List OpWord) (e : IllegalWord), s.schedule = w :: ws → decode w = .error e → ∃ t, step s = .next t

/-- With no word left no agent takes a step: the model's choice (notes/assumptions/3.md). -/
def Obligations.NoWordLeftIsRefused : Prop :=
  ∀ s : State, s.schedule = [] → step s = .refused .scheduleEnded

/-! ### The bus protocol state machine (40_bus_fsm.md) -/

/-- BEGIN_READ starts a transaction in IDLE and raises F_ORDER elsewhere (40_bus_fsm.md R100; 60_exceptions.md R201). -/
def Obligations.BeginReadEffect : Prop :=
  (∀ r : Byte, decode (0x08#8 ++ 0#11 ++ 0#1 ++ 0#4 ++ r ++ 0#32) = .ok (.beginRead r)) ∧
  ∀ (s : State) (r : Byte), s.config.WellFormed →
    exec (.beginRead r) s = .next (
      if s.tstate = .idle then
        { s with curReg := r, busCmd := s.busCmd ++ [0x0100#16], tstate := .awaitSb1 }
      else { s with fault := s.fault ||| 0b0001#4 })

/-- BUS_EVENT performs the row of its position when the expected flag is asserted, and the fallback otherwise, whatever the other
flags and, but for row 6, whatever the data byte (40_bus_fsm.md R101-R108). -/
def Obligations.BusEventEffect : Prop :=
  (∀ (f : BitVec 4) (d : Byte), decode (0x05#8 ++ 0#11 ++ 0#1 ++ f ++ d ++ 0#32) = .ok (.busEvent f d)) ∧
  ∀ (s : State) (f : BitVec 4) (d : Byte), s.config.WellFormed →
    let fallback : State := { s with busCmd := s.busCmd ++ [0x0200#16], tstate := .idle }
    exec (.busEvent f d) s = .next (
      match s.tstate with
      | .idle => fallback
      | .awaitSb1 =>
        if f.getLsbD 0 = true then
          { s with busCmd := s.busCmd ++ [0x03#8 ++ (s.config.devAddr.extractLsb' 0 7 ++ 0#1)], tstate := .awaitAddrW }
        else fallback
      | .awaitAddrW =>
        if f.getLsbD 1 = true then
          { s with busCmd := s.busCmd ++ [0x0400#16, 0x03#8 ++ s.curReg], tstate := .awaitBtf }
        else fallback
      | .awaitBtf =>
        if f.getLsbD 2 = true then { s with busCmd := s.busCmd ++ [0x0100#16], tstate := .awaitSb2 } else fallback
      | .awaitSb2 =>
        if f.getLsbD 0 = true then
          { s with
            busCmd := s.busCmd ++ [0x03#8 ++ (s.config.devAddr.extractLsb' 0 7 ++ 1#1), 0x0500#16]
            tstate := .awaitAddrR }
        else fallback
      | .awaitAddrR =>
        if f.getLsbD 1 = true then { s with busCmd := s.busCmd ++ [0x0200#16], tstate := .awaitRxne } else fallback
      | .awaitRxne =>
        if f.getLsbD 3 = true then
          { s with
            busCmd := s.busCmd ++ [0x06#8 ++ d, 0x0200#16], tstate := .idle
            latX := if s.curReg = s.config.regX then d else s.latX
            latY := if s.curReg ≠ s.config.regX ∧ s.curReg = s.config.regY then d else s.latY }
        else fallback)

/-- The canonical transaction: seven steps, ten commands, the reading latched (40_bus_fsm.md R109). -/
def Obligations.CanonicalTransactionLatchesTheReading : Prop :=
  ∀ (s : State) (r d : Byte) (rest : List OpWord), s.config.WellFormed → s.tstate = .idle →
    s.schedule = scheduleOf (.beginRead r :: Instr.xact d) ++ rest →
    runSteps 7 s = .next { s with
      schedule := rest, curReg := r, tstate := .idle
      latX := if r = s.config.regX then d else s.latX
      latY := if r ≠ s.config.regX ∧ r = s.config.regY then d else s.latY
      busCmd := s.busCmd ++ [0x0100#16, 0x03#8 ++ (s.config.devAddr.extractLsb' 0 7 ++ 0#1), 0x0400#16, 0x03#8 ++ r,
        0x0100#16, 0x03#8 ++ (s.config.devAddr.extractLsb' 0 7 ++ 1#1), 0x0500#16, 0x0200#16, 0x06#8 ++ d, 0x0200#16] }

/-- Recovery: a bus event without the expected flag leads to IDLE; one with it moves exactly one place along the chain, whose last
place is followed by IDLE; none faults; and from any state at most six bus events, whatever they are, lead to IDLE
(40_bus_fsm.md R110; the places are numbered by 30_encoding.md R77). -/
def Obligations.SixBusEventsReachIdle : Prop :=
  (∀ (s : State) (f : BitVec 4) (d : Byte), s.config.WellFormed → (∀ g, expect s.tstate = some g → g.setIn f = false) →
    ∃ t, exec (.busEvent f d) s = .next t ∧ t.fault = s.fault ∧ t.tstate = .idle) ∧
  (∀ (s : State) (f : BitVec 4) (d : Byte) (g : BusFlag), s.config.WellFormed → expect s.tstate = some g → g.setIn f = true →
    ∃ t, exec (.busEvent f d) s = .next t ∧ t.fault = s.fault ∧ t.tstate.code.toNat = (s.tstate.code.toNat + 1) % 7) ∧
  ∀ (s : State) (events : List (BitVec 4 × Byte)) (rest : List OpWord), s.config.WellFormed → events.length = 6 →
    s.schedule = scheduleOf (events.map fun e => .busEvent e.1 e.2) ++ rest →
    ∃ k ≤ 6, ∃ t, runSteps k s = .next t ∧ t.tstate = .idle ∧ t.fault = s.fault

/-- A latch is written only by row 6, for the axis whose register was read, and by RESET (10_state.md R25; 40_bus_fsm.md R107,
R111). -/
def Obligations.LatchesAreWrittenOnlyByRowSix : Prop :=
  ∀ (i : Instr) (s t : State), exec i s = .next t → i ≠ .reset → (t.latX ≠ s.latX ∨ t.latY ≠ s.latY) →
    ∃ f d, i = .busEvent f d ∧ s.tstate = .awaitRxne ∧ f.getLsbD 3 = true ∧
      ((s.curReg = s.config.regX ∧ t.latX = d ∧ t.latY = s.latY) ∨
       (s.curReg = s.config.regY ∧ t.latY = d ∧ t.latX = s.latX))

/-- BEGIN_READ moves TSTATE from IDLE to AWAIT_SB1, by itself and inside a timer handler; TSTATE leaves IDLE in no other way; every
other transition is made by BUS_EVENT; and RESET also writes it, to IDLE (10_state.md R23; 70_reset_and_hazards.md R230). -/
def Obligations.TstateHasTwoWritersAndReset : Prop :=
  (∀ s : State, s.config.WellFormed → s.tstate = .idle →
    (∀ r, ∃ t, exec (.beginRead r) s = .next t ∧ t.tstate = .awaitSb1) ∧
    (s.updPend = true → ∃ t, exec .updIsr s = .next t ∧ t.tstate = .awaitSb1) ∧
    (s.cmpPend = true → ∃ t, exec .cmpIsr s = .next t ∧ t.tstate = .awaitSb1)) ∧
  ∀ (i : Instr) (s t : State), exec i s = .next t → t.tstate ≠ s.tstate →
    (i = .reset ∧ t.tstate = .idle) ∨ (s.tstate ≠ .idle ∧ ∃ f d, i = .busEvent f d) ∨
    (s.tstate = .idle ∧ t.tstate = .awaitSb1 ∧ opcodeOf i ∈ [.beginRead, .updIsr, .cmpIsr])

/-- In system mode, with a well-behaved bus and every transaction complete before the next timer handler, the command trace is a
sequence of canonical transactions of the two axes, and then the commands already issued of the one in flight (40_bus_fsm.md
R109, R113; 70_reset_and_hazards.md R235; 95_test_vectors.md section 4). The runs are those without a further RESET, which would
abandon a transaction (notes/assumptions/18.md). -/
def Obligations.CommandTraceIsCanonicalTransactions : Prop :=
  ∀ (k : Nat) (s t : State), s.LaunchClean →
    runHolds (fun u => systemStep u && noResetStep u && wellBehavedBusStep u && transactionsCompleteStep u) k s = true →
    runSteps k s = .next t →
    ∃ done : List (Byte × Byte), (∀ p ∈ done, p.1 = t.config.regX ∨ p.1 = t.config.regY) ∧
      t.busCmd = done.flatMap (fun p => canonicalCommands t.config p.1 p.2) ++
        (canonicalCommands t.config t.curReg 0).take (commandsIssued t.tstate)

/-! ### The sampling scheduler (41_scheduler.md) -/

/-- TIMER_START sets TIM_EN, and UPD_PEND only when P_TIMER_INIT_UPDATE is true (41_scheduler.md R130). -/
def Obligations.TimerStartEffect : Prop :=
  decode 0x0100000000000000 = .ok .timerStart ∧
  ∀ s : State, s.config.WellFormed →
    exec .timerStart s = .next { s with
      timEn := true, updPend := if s.config.timerInitUpdate = true then true else s.updPend }

/-- TIMER_TICK advances CNT, wraps at P_PERIOD and raises the update event at the wrap and the compare event at P_CMP
(41_scheduler.md R131). -/
def Obligations.TimerTickEffect : Prop :=
  decode 0x0200000000000000 = .ok .timerTick ∧
  ∀ s : State, s.config.WellFormed → s.timEn = true → s.TimerInv →
    exec .timerTick s = .next (
      if s.cnt = s.config.period - 1 then { s with cnt := 0, updPend := true }
      else if s.cnt + 1 = s.config.cmp then { s with cnt := s.cnt + 1, cmpPend := true }
      else { s with cnt := s.cnt + 1 })

/-- The event schedule: counting ticks from 1 after TIMER_START at CNT = 0, tick n + 1 raises a compare event exactly when it is
P_CMP + (k-1)·P_PERIOD for some k >= 1, and an update event exactly when it is k·P_PERIOD (41_scheduler.md R132). The tick is
looked at from the state the first n ticks leave, with both pending bits cleared, so that the bit it raises is seen. -/
def Obligations.TimerEventSchedule : Prop :=
  ∀ (s : State) (n : Nat) (rest : List OpWord), s.config.WellFormed → s.config.timerInitUpdate = false → s.cnt = 0 →
    s.schedule = scheduleOf (.timerStart :: Instr.ticks n) ++ rest →
    ∃ u, runSteps (n + 1) s = .next u ∧ u.schedule = rest ∧
      ∃ t, exec .timerTick { u with updPend := false, cmpPend := false } = .next t ∧
        (t.cmpPend = true ↔ ∃ k, 1 ≤ k ∧ n + 1 = s.config.cmp + (k - 1) * s.config.period) ∧
        (t.updPend = true ↔ ∃ k, 1 ≤ k ∧ n + 1 = k * s.config.period)

/-- UPD_ISR clears its pending bit, starts the X read (or raises F_ORDER) and formats the X field from LAT_X in either case
(41_scheduler.md R133). -/
def Obligations.UpdateHandlerEffect : Prop :=
  decode 0x0300000000000000 = .ok .updIsr ∧
  ∀ s : State, s.config.WellFormed → s.updPend = true →
    ∃ m : Memory, (∀ a, ({ s with mem := m } : State).readByte a = s.fieldAfter 1 s.latX a) ∧
      exec .updIsr s = .next (
        if s.tstate = .idle then
          { s with
            updPend := false, mem := m, curReg := s.config.regX, busCmd := s.busCmd ++ [0x0100#16], tstate := .awaitSb1 }
        else { s with updPend := false, mem := m, fault := s.fault ||| 0b0001#4 })

/-- CMP_ISR clears its pending bit, starts the Y read (or raises F_ORDER), formats the Y field from LAT_Y and submits the frame:
a transfer starts, or the handle is queued, or it is dropped (41_scheduler.md R134; 43_queue_dispatch.md R163). -/
def Obligations.CompareHandlerEffect : Prop :=
  decode 0x0400000000000000 = .ok .cmpIsr ∧
  ∀ s : State, s.config.WellFormed → s.EngineInv → s.cmpPend = true →
    ∃ m : Memory, (∀ a, ({ s with mem := m } : State).readByte a = s.fieldAfter 5 s.latY a) ∧
      let read : State :=
        if s.tstate = .idle then
          { s with
            cmpPend := false, mem := m, curReg := s.config.regY, busCmd := s.busCmd ++ [0x0100#16], tstate := .awaitSb1 }
        else { s with cmpPend := false, mem := m, fault := s.fault ||| 0b0001#4 }
      exec .cmpIsr s = .next (
        if s.engBusy = false ∧ s.tcPend = false then
          { read with engBusy := true, txPtr := s.config.frameBase, txRem := s.config.txLen }
        else if s.qCount = s.config.qcap then read
        else
          { read with
            q := s.q.set s.qTail s.config.frameBase, qTail := (s.qTail + 1) % s.config.qcap, qCount := s.qCount + 1 })

/-- In system mode, while the timer is not started, no timer condition is pending, no transaction and no transfer is in flight and
none completes, whatever bus events arrive: the fallback takes them (60_exceptions.md R208; 70_reset_and_hazards.md R242). -/
def Obligations.NothingIsInFlightBeforeTimerStart : Prop :=
  ∀ (k : Nat) (s t : State), s.LaunchClean → runHolds systemStep k s = true → runSteps k s = .next t → t.timEn = false →
    t.updPend = false ∧ t.cmpPend = false ∧ t.tstate = .idle ∧ t.engBusy = false ∧ t.tcPend = false ∧ t.txRem = 0 ∧
      ∀ (f : BitVec 4) (d : Byte), exec (.busEvent f d) t = .next { t with busCmd := t.busCmd ++ [0x0200#16] }

/-- The first timer event after TIMER_START is a compare event at tick P_CMP; its handler starts a Y read and submits the frame as
RESET left it (41_scheduler.md R136). -/
def Obligations.FirstCompareSubmitsTheResetFrame : Prop :=
  ∀ (s : State) (rest : List OpWord), s.LaunchClean → s.config.timerInitUpdate = false →
    s.schedule = scheduleOf (.timerStart :: Instr.ticks s.config.cmp ++ [.cmpIsr]) ++ rest →
    (∀ n < s.config.cmp, ∃ u, runSteps (n + 1) s = .next u ∧ u.updPend = false ∧ u.cmpPend = false) ∧
    ∃ t, runSteps (s.config.cmp + 2) s = .next t ∧ t.schedule = rest ∧ t.updPend = false ∧ t.cmpPend = false ∧
      t.tstate = .awaitSb1 ∧ t.curReg = s.config.regY ∧ t.busCmd = [0x0100#16] ∧
      t.engBusy = true ∧ t.txPtr = s.config.frameBase ∧ t.txRem = 11 ∧ t.qCount = 0 ∧ t.fault = 0 ∧
      ∀ i < 11, t.frame i =
        [0x58#8, 0x30#8, 0x30#8, 0x30#8, 0x59#8, 0x30#8, 0x30#8, 0x30#8, 0x0D#8, 0x0A#8, s.config.termByte][i]?

/-- The one-cycle lag: the frame submitted at a compare event carries the X and Y readings of the cycle before (41_scheduler.md
R137). First, in every interleaving of the timer's, the bus's and the engine's steps with two cycles of handlers, the transactions
of the first cycle complete on a well-behaved bus. Second, one interleaving in which the timer paces the handlers is a run. -/
def Obligations.ReadingsAppearOneCycleLater : Prop :=
  let carries (t : State) (x y : Byte) : Prop :=
    t.frame 1 = some (BitVec.ofNat 8 (0x30 + x.toNat / 100)) ∧
    t.frame 2 = some (BitVec.ofNat 8 (0x30 + x.toNat / 10 % 10)) ∧
    t.frame 3 = some (BitVec.ofNat 8 (0x30 + x.toNat % 10)) ∧
    t.frame 5 = some (BitVec.ofNat 8 (0x30 + y.toNat / 100)) ∧
    t.frame 6 = some (BitVec.ofNat 8 (0x30 + y.toNat / 10 % 10)) ∧
    t.frame 7 = some (BitVec.ofNat 8 (0x30 + y.toNat % 10))
  (∀ (s t : State) (x y : Byte) (afterX afterY afterX' : List Instr) (rest : List OpWord), s.tstate = .idle →
    betweenHandlers afterX → betweenHandlers afterY → betweenHandlers afterX' →
    wholeTransaction x (busEventsIn afterX) → wholeTransaction y (busEventsIn afterY) →
    let ops : List Instr := [.updIsr] ++ afterX ++ [.cmpIsr] ++ afterY ++ [.updIsr] ++ afterX' ++ [.cmpIsr]
    s.schedule = scheduleOf ops ++ rest → runSteps ops.length s = .next t → carries t x y) ∧
  ∀ (s : State) (x y x' : Byte) (rest : List OpWord), s.config.WellFormed → s.timEn = true → s.cnt = 0 →
    s.updPend = true → s.cmpPend = false → s.tstate = .idle →
    let ops : List Instr :=
      [.updIsr] ++ Instr.xact x ++ Instr.ticks s.config.cmp ++ [.cmpIsr] ++ Instr.xact y ++
        Instr.ticks (s.config.period - s.config.cmp) ++ [.updIsr] ++ Instr.xact x' ++ Instr.ticks s.config.cmp ++ [.cmpIsr]
    s.schedule = scheduleOf ops ++ rest →
    ∃ t, runSteps ops.length s = .next t ∧ t.schedule = rest ∧ carries t x y

/-! ### The formatter (42_formatter.md) and memory (20_memory.md) -/

/-- FORMAT writes the three digits of the reading into its axis's field, most significant first, and changes nothing else
(42_formatter.md R150, R152). -/
def Obligations.FormatEffect : Prop :=
  (∀ v : Byte, decode (0x09#8 ++ 0#11 ++ 0#1 ++ 0#4 ++ v ++ 0#32) = .ok (.format .x v)) ∧
  (∀ v : Byte, decode (0x09#8 ++ 0#11 ++ 1#1 ++ 0#4 ++ v ++ 0#32) = .ok (.format .y v)) ∧
  ∀ (s : State) (ax : Axis) (v : Byte), s.config.WellFormed →
    ∃ m : Memory, exec (.format ax v) s = .next { s with mem := m } ∧
      ∀ a, ({ s with mem := m } : State).readByte a = s.fieldAfter (match ax with | .x => 1 | .y => 5) v a

/-- The digit laws (42_formatter.md R151). -/
def Obligations.DigitLaws : Prop :=
  ∀ v : Byte, ∃ h t u : Nat, digitBytes v = [BitVec.ofNat 8 (0x30 + h), BitVec.ofNat 8 (0x30 + t), BitVec.ofNat 8 (0x30 + u)] ∧
    h = v.toNat / 100 ∧ t = (v.toNat / 10) % 10 ∧ u = v.toNat % 10 ∧ v.toNat = 100 * h + 10 * t + u ∧
    h ≤ 2 ∧ t ≤ 9 ∧ u ≤ 9

/-- The block determines exactly the bytes of the frame buffer, P_FRAME_BASE through P_FRAME_BASE + 10 (20_memory.md R51, R53). -/
def Obligations.FrameBufferIsAllTheBlockDetermines : Prop :=
  ∀ (s : State) (a : Nat), s.readByte a ≠ none ↔ s.config.frameBase.toNat ≤ a ∧ a ≤ s.config.frameBase.toNat + 10

/-- Two memories in canonical form that read the same at every address are the same data: the model's own law of its memory. -/
def Obligations.CanonicalMemoriesThatReadAlikeAreEqual : Prop :=
  ∀ (c : Config) (m m' : Memory), Memory.wf c m → Memory.wf c m' →
    (∀ a, Memory.read c m a = Memory.read c m' a) → m = m'

/-- An operation changes no byte but those its rule stores to: RESET the frame buffer, FORMAT (also inside a timer handler) its
axis's field (20_memory.md R50, R53; 42_formatter.md R152). -/
def Obligations.BytesChangeOnlyWhereTheRuleStores : Prop :=
  ∀ (i : Instr) (s t : State), exec i s = .next t →
    match i with
    | .reset => ∀ a, a < s.config.frameBase.toNat ∨ s.config.frameBase.toNat + 11 ≤ a → t.readByte a = s.readByte a
    | .format ax _ =>
      ∀ a, a < s.config.frameBase.toNat + fieldOffset ax ∨ s.config.frameBase.toNat + fieldOffset ax + 3 ≤ a →
        t.readByte a = s.readByte a
    | .updIsr =>
      ∀ a, a < s.config.frameBase.toNat + fieldOffset .x ∨ s.config.frameBase.toNat + fieldOffset .x + 3 ≤ a →
        t.readByte a = s.readByte a
    | .cmpIsr =>
      ∀ a, a < s.config.frameBase.toNat + fieldOffset .y ∨ s.config.frameBase.toNat + fieldOffset .y + 3 ≤ a →
        t.readByte a = s.readByte a
    | _ => ∀ a, t.readByte a = s.readByte a

/-! ### The queue, the dispatch and the engine (43_queue_dispatch.md) -/

/-- ENQUEUE adds the handle at the tail, or drops it when the queue is full (43_queue_dispatch.md R160). -/
def Obligations.EnqueueEffect : Prop :=
  (∀ h : Handle, decode (0x0B#8 ++ 0#11 ++ 0#1 ++ 0#4 ++ 0#8 ++ h) = .ok (.enqueue h)) ∧
  ∀ (s : State) (h : Handle), s.config.WellFormed →
    exec (.enqueue h) s = .next (
      if s.qCount = s.config.qcap then s
      else { s with q := s.q.set s.qTail h, qTail := (s.qTail + 1) % s.config.qcap, qCount := s.qCount + 1 })

/-- DEQUEUE removes the handle at the head and returns it, or raises F_QEMPTY on an empty queue (43_queue_dispatch.md R161;
60_exceptions.md R202). That the returned handle is appended to the field `returned` is the model's choice
(notes/assumptions/9.md). -/
def Obligations.DequeueEffect : Prop :=
  decode 0x0C00000000000000 = .ok .dequeue ∧
  (∀ s : State, s.config.WellFormed → s.qCount = 0 →
    exec .dequeue s = .next { s with fault := s.fault ||| 0b0010#4 }) ∧
  ∀ (s : State) (hh : s.qHead < s.q.length), s.config.WellFormed → 0 < s.qCount →
    exec .dequeue s = .next { s with
      qHead := (s.qHead + 1) % s.config.qcap, qCount := s.qCount - 1, returned := s.returned ++ [s.q[s.qHead]] }

/-- The queue is first-in first-out: what the DEQUEUEs returned, and then what the queue still holds, is what the ENQUEUEs
accepted, in the order accepted; and P_QCAP enqueues followed by P_QCAP dequeues return the handles in insertion order and leave
the queue empty (43_queue_dispatch.md R162). That the returned handles are read in the field `returned` is the model's choice
(notes/assumptions/9.md). -/
def Obligations.QueueIsFirstInFirstOut : Prop :=
  (∀ (s t : State) (ops : List Instr) (rest : List OpWord), s.config.WellFormed → s.QueueInv → s.qCount = 0 → s.fault = 0 →
    (∀ i ∈ ops, i = .dequeue ∨ ∃ h, i = .enqueue h) → s.schedule = scheduleOf ops ++ rest →
    runSteps ops.length s = .next t → t.fault = 0 →
    ∃ out, t.returned = s.returned ++ out ∧ out ++ t.contents = accepted s.config.qcap 0 ops) ∧
  ∀ (s : State) (hs : List Handle) (rest : List OpWord), s.config.WellFormed → s.QueueInv → s.qCount = 0 →
    hs.length = s.config.qcap →
    s.schedule = scheduleOf (hs.map .enqueue ++ List.replicate s.config.qcap .dequeue) ++ rest →
    ∃ t, runSteps (2 * s.config.qcap) s = .next t ∧ t.returned = s.returned ++ hs ∧ t.qCount = 0 ∧ t.fault = s.fault

/-- What the queue holds changes at its ends alone: an operation appends one handle, removes the oldest, empties the queue
(RESET), or leaves it (10_state.md R29, R40 invariant 2; 43_queue_dispatch.md R169, R170). -/
def Obligations.QueueChangesOnlyAtItsEnds : Prop :=
  ∀ (i : Instr) (s t : State), s.QueueInv → exec i s = .next t →
    t.contents = s.contents ∨
    (∃ h, t.contents = s.contents ++ [h] ∧
      (i = .enqueue h ∨ i = .submit h ∨ (i = .cmpIsr ∧ h = s.config.frameBase))) ∨
    (∃ h, s.contents = h :: t.contents ∧ (i = .dequeue ∨ i = .tcIsr)) ∨
    (i = .reset ∧ t.contents = [])

/-- SUBMIT starts a transfer when the engine is Idle with no completion unconsumed, and else queues the handle or drops it
(43_queue_dispatch.md R163). -/
def Obligations.SubmitEffect : Prop :=
  (∀ h : Handle, decode (0x0A#8 ++ 0#11 ++ 0#1 ++ 0#4 ++ 0#8 ++ h) = .ok (.submit h)) ∧
  ∀ (s : State) (h : Handle), s.config.WellFormed → s.EngineInv →
    exec (.submit h) s = .next (
      if s.engBusy = false ∧ s.tcPend = false then { s with engBusy := true, txPtr := h, txRem := s.config.txLen }
      else if s.qCount = s.config.qcap then s
      else { s with q := s.q.set s.qTail h, qTail := (s.qTail + 1) % s.config.qcap, qCount := s.qCount + 1 })

/-- ENGINE_START loads the engine, or raises F_ENGBUSY when a transfer is in flight or its completion is unconsumed
(43_queue_dispatch.md R164; 60_exceptions.md R204). -/
def Obligations.EngineStartEffect : Prop :=
  (∀ h : Handle, decode (0x0D#8 ++ 0#11 ++ 0#1 ++ 0#4 ++ 0#8 ++ h) = .ok (.engineStart h)) ∧
  ∀ (s : State) (h : Handle), s.config.WellFormed →
    exec (.engineStart h) s = .next (
      if s.txRem ≠ 0 ∨ s.tcPend = true then { s with fault := s.fault ||| 0b1000#4 }
      else { s with engBusy := true, txPtr := h, txRem := s.config.txLen })

/-- ENGINE_BYTE hands the byte at TX_PTR to the transport: the memory's byte in the frame buffer, and outside it some byte, which
is a free draw; TX_PTR wraps, and the last byte raises TC_PEND (43_queue_dispatch.md R165; 20_memory.md R53, R65). The count of
draws is the model's choice (notes/assumptions/6.md). -/
def Obligations.EngineByteEffect : Prop :=
  decode 0x0600000000000000 = .ok .engineByte ∧
  ∀ s : State, s.config.WellFormed → 0 < s.txRem →
    ∃ (b : Byte) (n : Nat), (∀ x, s.readByte s.txPtr.toNat = some x → b = x ∧ n = s.draws) ∧
      (s.readByte s.txPtr.toNat = none → n = s.draws + 1) ∧
      exec .engineByte s = .next { s with
        txOut := s.txOut ++ [b], draws := n
        txPtr := BitVec.ofNat 32 ((s.txPtr.toNat + 1) % 2 ^ 32), txRem := s.txRem - 1
        tcPend := if s.txRem = 1 then true else s.tcPend }

/-- TC_ISR consumes the completion and starts the oldest queued frame, or leaves the engine Idle (43_queue_dispatch.md R166). -/
def Obligations.TransferCompleteHandlerEffect : Prop :=
  decode 0x0700000000000000 = .ok .tcIsr ∧
  (∀ s : State, s.config.WellFormed → s.tcPend = true → s.qCount = 0 →
    exec .tcIsr s = .next { s with tcPend := false, engBusy := false }) ∧
  ∀ (s : State) (hh : s.qHead < s.q.length), s.config.WellFormed → s.EngineInv → s.tcPend = true → 0 < s.qCount →
    exec .tcIsr s = .next { s with
      tcPend := false, qHead := (s.qHead + 1) % s.config.qcap, qCount := s.qCount - 1
      engBusy := true, txPtr := s.q[s.qHead], txRem := s.config.txLen }

/-- A transfer of the frame buffer: eleven ENGINE_BYTE steps append its eleven bytes in ascending order and raise the completion
(43_queue_dispatch.md R167; 20_memory.md R54). -/
def Obligations.ElevenByteStepsSendTheFrame : Prop :=
  ∀ (s : State) (rest : List OpWord), s.config.WellFormed → s.txRem = s.config.txLen → s.txPtr = s.config.frameBase →
    s.schedule = scheduleOf (Instr.ebytes 11) ++ rest →
    ∃ bs : List Byte, bs.length = 11 ∧ (∀ i < 11, s.frame i = bs[i]?) ∧
      runSteps 11 s = .next { s with
        schedule := rest, txOut := s.txOut ++ bs, txPtr := s.config.frameBase + 11#32, txRem := 0, tcPend := true }

/-- Transfers are whole, operation by operation and for any handle (43_queue_dispatch.md R167). While a transfer from `h` is in
flight, ENGINE_BYTE takes the byte at `h + (11 - TX_REM)`, the next in ascending order, and every other operation but RESET leaves
the transfer and TXOUT alone. With no byte to move, TXOUT stays, and a transfer that starts has all its eleven bytes to move, from
the handle given, the frame's, or the oldest queued. And TXOUT's length with the bytes still to move stays a multiple of eleven. -/
def Obligations.TransfersAreWhole : Prop :=
  ∀ (i : Instr) (s t : State), exec i s = .next t → i ≠ .reset →
    (∀ h : Handle, 0 < s.txRem → s.txRem ≤ 11 → s.txPtr = h + BitVec.ofNat 32 (11 - s.txRem) →
      t.txPtr = h + BitVec.ofNat 32 (11 - t.txRem) ∧
      if i = .engineByte then
        t.txRem = s.txRem - 1 ∧
        ∃ b, t.txOut = s.txOut ++ [b] ∧ ∀ x, s.readByte (h + BitVec.ofNat 32 (11 - s.txRem)).toNat = some x → b = x
      else t.txRem = s.txRem ∧ t.txOut = s.txOut) ∧
    (s.txRem = 0 → t.txOut = s.txOut ∧
      ((t.txRem = 0 ∧ t.txPtr = s.txPtr) ∨
       (t.txRem = 11 ∧ (i = .engineStart t.txPtr ∨ i = .submit t.txPtr ∨ (i = .cmpIsr ∧ t.txPtr = s.config.frameBase) ∨
         (i = .tcIsr ∧ 0 < s.qCount ∧ t.txPtr = s.entry s.qHead))))) ∧
    ((s.txOut.length + s.txRem) % 11 = 0 → (t.txOut.length + t.txRem) % 11 = 0)

/-- In system mode, from a clean launch and without a further RESET, every byte on the transport is what a frame holds at its
offset: the fixed bytes are the markers, and the digits are digits (30_encoding.md R82; 42_formatter.md R151, R152;
43_queue_dispatch.md R167, R168; 95_test_vectors.md section 4). -/
def Obligations.EveryTransmittedByteFitsTheFrame : Prop :=
  ∀ (k : Nat) (s t : State), s.LaunchClean → runHolds (fun u => systemStep u && noResetStep u) k s = true →
    runSteps k s = .next t → ∀ (n : Nat) (b : Byte), t.txOut[n]? = some b → frameByteOk t.config (n % 11) b = true

/-- In system mode, from a clean launch, every queued handle is the frame's, and the engine reads nothing but the frame: queued
frames alias the one buffer, and no byte is a free draw (43_queue_dispatch.md R168; 20_memory.md R53). -/
def Obligations.QueuedHandlesAliasTheOneFrame : Prop :=
  ∀ (k : Nat) (s t : State), s.LaunchClean → runHolds systemStep k s = true → runSteps k s = .next t →
    (∀ h ∈ t.contents, h = t.config.frameBase) ∧ t.draws = s.draws ∧
    (0 < t.txRem → t.txPtr.toNat = t.config.frameBase.toNat + (t.config.txLen - t.txRem))

/-- Under weak fairness of the engine every transfer in flight is eventually complete, if no RESET stops it
(70_reset_and_hazards.md R243). Illegal words may stand among the operations. -/
def Obligations.FairEngineCompletesEveryTransfer : Prop :=
  ∀ (ops : Nat → Option Instr) (states : Nat → State), EndlessRun ops states → (states 0).Inv → (∀ n, ops n ≠ some .reset) →
    WeaklyFair .engineByte ops states →
    ∀ n, 0 < (states n).txRem →
      ∃ m, n < m ∧ (states m).txRem = 0 ∧ (states m).tcPend = true ∧
        (states m).txOut.length = (states n).txOut.length + (states n).txRem

/-! ### Faults (60_exceptions.md) -/

/-- FAULT is sticky: no step clears a bit (60_exceptions.md R200; 10_state.md R34). -/
def Obligations.FaultBitsAreSticky : Prop :=
  ∀ s t : State, step s = .next t → s.fault &&& t.fault = s.fault

/-- Which operation raises which model fault, and when: a legal operation raises at most one bit (60_exceptions.md R201, R202,
R204, R211). -/
def Obligations.FaultsHaveOnlyTheirCauses : Prop :=
  ∀ (i : Instr) (s t : State), s.EngineInv → exec i s = .next t → t.fault ≠ s.fault →
    (t.fault = s.fault ||| 0b0001#4 ∧ s.tstate ≠ .idle ∧ opcodeOf i ∈ [.beginRead, .updIsr, .cmpIsr]) ∨
    (t.fault = s.fault ||| 0b0010#4 ∧ s.qCount = 0 ∧ i = .dequeue) ∨
    (t.fault = s.fault ||| 0b1000#4 ∧ (s.txRem ≠ 0 ∨ s.tcPend = true) ∧ opcodeOf i = .engineStart)

/-- In system mode under `TransactionsComplete`, from a clean launch, no run raises a model fault, and every state satisfies the
invariants (60_exceptions.md R201-R204; 70_reset_and_hazards.md R231, R235; 10_state.md R40). -/
def Obligations.NoFaultWhenTransactionsComplete : Prop :=
  ∀ (k : Nat) (s t : State), s.LaunchClean →
    runHolds (fun u => systemStep u && transactionsCompleteStep u) k s = true →
    runSteps k s = .next t → t.fault = 0 ∧ t.Inv

/-! ### State, reset and invariants (10_state.md, 70_reset_and_hazards.md) -/

/-- The reset column of 10_state.md R21 in the launch state of every configuration, and in `State.reset`, with FAULT = 0 and both
traces empty (70_reset_and_hazards.md R231). -/
def Obligations.LaunchStateIsTheResetColumn : Prop :=
  (∃ c, State.reset = State.launch c) ∧
  ∀ (c : Config) (s : State), s = State.launch c →
    s.config = c ∧ s.tstate = .idle ∧ s.curReg = 0x00 ∧ s.latX = 0x00 ∧ s.latY = 0x00 ∧ s.timEn = false ∧ s.cnt = 0 ∧
    s.updPend = false ∧ s.cmpPend = false ∧ s.q.length = c.qcap ∧ s.qHead = 0 ∧ s.qTail = 0 ∧ s.qCount = 0 ∧
    s.engBusy = false ∧ s.tcPend = false ∧ s.txPtr = 0 ∧ s.txRem = 0 ∧ s.fault = 0 ∧ s.busCmd = [] ∧ s.txOut = [] ∧
    ∀ i < 11, s.frame i = [0x58#8, 0x30#8, 0x30#8, 0x30#8, 0x59#8, 0x30#8, 0x30#8, 0x30#8, 0x0D#8, 0x0A#8, c.termByte][i]?

/-- RESET puts every register into its reset state and writes the frame buffer; the queue's entries, FAULT, BUSCMD and TXOUT keep
what they hold (70_reset_and_hazards.md R230). -/
def Obligations.ResetEffect : Prop :=
  decode 0x0000000000000000 = .ok .reset ∧
  ∀ s : State, s.config.WellFormed →
    ∃ m : Memory,
      exec .reset s = .next { s with
        tstate := .idle, curReg := 0x00, latX := 0x00, latY := 0x00
        timEn := false, cnt := 0, updPend := false, cmpPend := false
        qHead := 0, qTail := 0, qCount := 0
        engBusy := false, tcPend := false, txPtr := 0, txRem := 0, mem := m } ∧
      (∀ i < 11, ({ s with mem := m } : State).frame i =
        [0x58#8, 0x30#8, 0x30#8, 0x30#8, 0x59#8, 0x30#8, 0x30#8, 0x30#8, 0x0D#8, 0x0A#8, s.config.termByte][i]?) ∧
      ∀ a, a < s.config.frameBase.toNat ∨ s.config.frameBase.toNat + 11 ≤ a →
        ({ s with mem := m } : State).readByte a = s.readByte a

/-- The launch state of every well-formed configuration satisfies the invariants (10_state.md R40). -/
def Obligations.LaunchSatisfiesTheInvariants : Prop :=
  ∀ c : Config, c.WellFormed → (State.launch c).Inv

/-- Every step keeps the invariants of 10_state.md R40 and the canonical form of memory, whatever the operation, in unit mode and
after a fault too (10_state.md R40). -/
def Obligations.EveryStepKeepsTheInvariants : Prop :=
  ∀ s t : State, s.Inv → step s = .next t → t.Inv

/-- No step writes the parameters, and every step takes exactly one word (10_state.md R37; 30_encoding.md R70). -/
def Obligations.NoStepWritesTheConfiguration : Prop :=
  ∀ s t : State, step s = .next t → t.config = s.config ∧ ∃ w, s.schedule = w :: t.schedule

/-- The traces are empty at the launch, and steps, RESET among them, only append to them (10_state.md R35). -/
def Obligations.TracesOnlyGrow : Prop :=
  (∀ c : Config, (State.launch c).busCmd = [] ∧ (State.launch c).txOut = []) ∧
  ∀ s t : State, step s = .next t → ∃ cmds bytes, t.busCmd = s.busCmd ++ cmds ∧ t.txOut = s.txOut ++ bytes

/-- The registers of the bus state machine change only in the operations that write them, inline calls counted (10_state.md R21,
column "written by"), and its trace only in those whose rules emit a command: not in RESET (10_state.md R35; 40_bus_fsm.md
R100-R108; 41_scheduler.md R133, R134; 70_reset_and_hazards.md R230). -/
def Obligations.BusRegistersHaveOnlyTheirWriters : Prop :=
  ∀ (i : Instr) (s t : State), exec i s = .next t →
    (t.tstate ≠ s.tstate → opcodeOf i ∈ [.beginRead, .updIsr, .cmpIsr, .busEvent, .reset]) ∧
    (t.curReg ≠ s.curReg → opcodeOf i ∈ [.beginRead, .updIsr, .cmpIsr, .reset]) ∧
    (t.latX ≠ s.latX → opcodeOf i ∈ [.busEvent, .reset]) ∧
    (t.latY ≠ s.latY → opcodeOf i ∈ [.busEvent, .reset]) ∧
    (t.busCmd ≠ s.busCmd → opcodeOf i ∈ [.beginRead, .updIsr, .cmpIsr, .busEvent])

/-- The timer's registers change only in the operations that write them (10_state.md R21, column "written by"). -/
def Obligations.TimerRegistersHaveOnlyTheirWriters : Prop :=
  ∀ (i : Instr) (s t : State), exec i s = .next t →
    (t.timEn ≠ s.timEn → opcodeOf i ∈ [.timerStart, .reset]) ∧
    (t.cnt ≠ s.cnt → opcodeOf i ∈ [.timerTick, .reset]) ∧
    (t.updPend ≠ s.updPend → opcodeOf i ∈ [.timerTick, .timerStart, .updIsr, .reset]) ∧
    (t.cmpPend ≠ s.cmpPend → opcodeOf i ∈ [.timerTick, .cmpIsr, .reset])

/-- The queue's and the engine's registers change only in the operations that write them, inline calls counted (10_state.md R21,
column "written by"), and the transport's trace only in ENGINE_BYTE (10_state.md R35; 43_queue_dispatch.md R165). The count of draws
and the list of returned handles are the model's choice (notes/assumptions/6.md, 9.md). -/
def Obligations.QueueAndEngineRegistersHaveOnlyTheirWriters : Prop :=
  ∀ (i : Instr) (s t : State), exec i s = .next t →
    (t.q ≠ s.q → opcodeOf i ∈ [.enqueue, .submit, .cmpIsr]) ∧
    (t.qHead ≠ s.qHead → opcodeOf i ∈ [.dequeue, .tcIsr, .reset]) ∧
    (t.qTail ≠ s.qTail → opcodeOf i ∈ [.enqueue, .submit, .cmpIsr, .reset]) ∧
    (t.qCount ≠ s.qCount → opcodeOf i ∈ [.enqueue, .submit, .cmpIsr, .dequeue, .tcIsr, .reset]) ∧
    (t.engBusy ≠ s.engBusy → opcodeOf i ∈ [.engineStart, .submit, .cmpIsr, .tcIsr, .reset]) ∧
    (t.tcPend ≠ s.tcPend → opcodeOf i ∈ [.engineByte, .tcIsr, .reset]) ∧
    (t.txPtr ≠ s.txPtr → opcodeOf i ∈ [.engineStart, .submit, .cmpIsr, .tcIsr, .engineByte, .reset]) ∧
    (t.txRem ≠ s.txRem → opcodeOf i ∈ [.engineStart, .submit, .cmpIsr, .tcIsr, .engineByte, .reset]) ∧
    (t.txOut ≠ s.txOut → opcodeOf i ∈ [.engineByte]) ∧
    (t.draws ≠ s.draws → opcodeOf i ∈ [.engineByte]) ∧
    (t.returned ≠ s.returned → opcodeOf i ∈ [.dequeue])

/-! ### Invariants of the runs a claim speaks of, step by step -/

/-- The command trace stays canonical: a clean launch has no command and no transaction in flight, and from every state whose trace
is whole transactions of the two axes and the part issued of the one in flight, a system step on a well-behaved bus, each
transaction complete before the next timer handler, leads to such a state again, unless it is a RESET (40_bus_fsm.md R109, R113;
70_reset_and_hazards.md R235; notes/assumptions/17.md, 18.md). -/
def Obligations.EveryStepKeepsTheCommandTraceCanonical : Prop :=
  (∀ s : State, s.LaunchClean → s.CanonicalTrace) ∧
  ∀ s t : State, s.CanonicalTrace → systemStep s = true → noResetStep s = true → wellBehavedBusStep s = true →
    transactionsCompleteStep s = true → step s = .next t → t.CanonicalTrace

/-- The output stays frames: a clean launch satisfies it, and every system step that is no RESET keeps, beside the block's
invariants, that every queued handle is the frame's, that a transfer in flight reads the frame at the offset it has reached, that
TXOUT with what is still to move is whole frames, and that every byte of TXOUT is what a frame holds at its offset (30_encoding.md
R82; 43_queue_dispatch.md R167, R168; notes/assumptions/18.md). -/
def Obligations.EverySystemStepKeepsTheOutputFramed : Prop :=
  (∀ s : State, s.LaunchClean → s.OutputFramed) ∧
  ∀ s t : State, s.OutputFramed → systemStep s = true → noResetStep s = true → step s = .next t → t.OutputFramed

/-- No fault in system mode: a clean launch is a good state with the block's invariants, and every system step under
`TransactionsComplete`, RESET among them, keeps both (60_exceptions.md R200-R204; 70_reset_and_hazards.md R235). -/
def Obligations.EverySystemStepKeepsTheStateGood : Prop :=
  (∀ s : State, s.LaunchClean → s.Inv ∧ s.Good) ∧
  ∀ s t : State, s.Inv → s.Good → systemStep s = true → transactionsCompleteStep s = true → step s = .next t → t.Inv ∧ t.Good

/-- A transfer from any handle, with any other steps in between: of a transfer that starts from `h`, byte `m` on the transport was
handed over by an ENGINE_BYTE step that read it at `h + m`, as the memory was at that step, and the eleventh raised the completion;
no byte of another transfer lies between (43_queue_dispatch.md R167; 20_memory.md R60). A RESET, which stops a transfer, is left
out (notes/assumptions/18.md). -/
def Obligations.EveryTransferMovesItsElevenBytes : Prop :=
  ∀ (h : Handle) (k : Nat) (s t : State), s.txRem = 11 → s.txPtr = h → runHolds noResetStep k s = true → runSteps k s = .next t →
    ∀ (m : Nat) (b : Byte), m < 11 → t.txOut[s.txOut.length + m]? = some b →
      ∃ (n : Nat) (u v : State), n < k ∧ runSteps n s = .next u ∧ u.nextOp = some .engineByte ∧ step u = .next v ∧
        u.txOut.length = s.txOut.length + m ∧ v.txOut = u.txOut ++ [b] ∧
        u.txPtr = h + BitVec.ofNat 32 m ∧ (∀ x, u.readByte u.txPtr.toNat = some x → b = x) ∧
        (m = 10 → v.txRem = 0 ∧ v.tcPend = true)
end

