-- ==== Sys2Proof/Laws/Config.lean ====
section
/-! SUPPORT. What a well-formed configuration satisfies (00_scope.md R9). -/

namespace Sys2Proof

theorem Config.wellFormed_iff (c : Config) : c.WellFormed ↔
    1 ≤ c.qcap ∧ (2 ≤ c.period ∧ c.period ≤ 2 ^ c.cntW) ∧ (1 ≤ c.cmp ∧ c.cmp ≤ c.period - 1) ∧ c.regX ≠ c.regY ∧
      c.devAddr.toNat ≤ 0x7F ∧ c.frameBase.toNat + 10 ≤ 2 ^ 32 - 1 ∧ c.txLen = 11 := by
  unfold Config.WellFormed Config.check frameLen addrWidth
  simp only [Bool.and_eq_true, decide_eq_true_eq, and_assoc]
  exact Iff.rfl

end Sys2Proof
end

