-- ==== Sys2Proof/Laws/Decode.lean ====
section
/-! SUPPORT. The fields of an assembled word, a word from its fields, and the decoder's two directions at the level of fields
(30_encoding.md R70-R74). -/

namespace Sys2Proof

/-- The number a concatenation is. -/
theorem toNat_concat {n m : Nat} (x : BitVec n) (y : BitVec m) : (x ++ y).toNat = x.toNat * 2 ^ m + y.toNat := by
  rw [BitVec.toNat_append, ← Nat.shiftLeft_add_eq_or_of_lt y.isLt, Nat.shiftLeft_eq]

/-- The number a word is, from its fields. -/
theorem toNat_assemble (opc : BitVec 8) (ax : BitVec 1) (flg : BitVec 4) (val : Byte) (h : Handle) :
    (assemble opc ax flg val h).toNat =
      opc.toNat * 2 ^ 56 + ax.toNat * 2 ^ 44 + flg.toNat * 2 ^ 40 + val.toNat * 2 ^ 32 + h.toNat := by
  show BitVec.toNat (w := 8 + 11 + 1 + 4 + 8 + 32) (opc ++ (0 : BitVec 11) ++ ax ++ flg ++ val ++ h) = _
  have h0 : BitVec.toNat (0 : BitVec 11) = 0 := rfl
  simp only [toNat_concat, h0]
  omega

theorem toNat_opcField (w : OpWord) : (opcField w).toNat = w.toNat / 2 ^ 56 := by
  have := w.isLt
  simp only [opcField, BitVec.extractLsb'_toNat, Nat.shiftRight_eq_div_pow]; omega

theorem toNat_rsvField (w : OpWord) : (rsvField w).toNat = w.toNat / 2 ^ 45 % 2 ^ 11 := by
  simp only [rsvField, BitVec.extractLsb'_toNat, Nat.shiftRight_eq_div_pow]

theorem toNat_axField (w : OpWord) : (axField w).toNat = w.toNat / 2 ^ 44 % 2 := by
  simp only [axField, BitVec.extractLsb'_toNat, Nat.shiftRight_eq_div_pow, pow_one]

theorem toNat_flgField (w : OpWord) : (flgField w).toNat = w.toNat / 2 ^ 40 % 2 ^ 4 := by
  simp only [flgField, BitVec.extractLsb'_toNat, Nat.shiftRight_eq_div_pow]

theorem toNat_valField (w : OpWord) : (valField w).toNat = w.toNat / 2 ^ 32 % 2 ^ 8 := by
  simp only [valField, BitVec.extractLsb'_toNat, Nat.shiftRight_eq_div_pow]

theorem toNat_hField (w : OpWord) : (hField w).toNat = w.toNat % 2 ^ 32 := by
  simp only [hField, BitVec.extractLsb'_toNat, Nat.shiftRight_eq_div_pow]; omega

section
variable (opc : BitVec 8) (ax : BitVec 1) (flg : BitVec 4) (val : Byte) (h : Handle)

@[simp] theorem opcField_assemble : opcField (assemble opc ax flg val h) = opc := by
  apply BitVec.eq_of_toNat_eq
  have h1 := opc.isLt; have h2 := ax.isLt; have h3 := flg.isLt; have h4 := val.isLt; have h5 := h.isLt
  rw [toNat_opcField, toNat_assemble]; omega

@[simp] theorem rsvField_assemble : rsvField (assemble opc ax flg val h) = 0 := by
  apply BitVec.eq_of_toNat_eq
  have h1 := opc.isLt; have h2 := ax.isLt; have h3 := flg.isLt; have h4 := val.isLt; have h5 := h.isLt
  rw [toNat_rsvField, toNat_assemble]; simp; omega

@[simp] theorem axField_assemble : axField (assemble opc ax flg val h) = ax := by
  apply BitVec.eq_of_toNat_eq
  have h1 := opc.isLt; have h2 := ax.isLt; have h3 := flg.isLt; have h4 := val.isLt; have h5 := h.isLt
  rw [toNat_axField, toNat_assemble]; omega

@[simp] theorem flgField_assemble : flgField (assemble opc ax flg val h) = flg := by
  apply BitVec.eq_of_toNat_eq
  have h1 := opc.isLt; have h2 := ax.isLt; have h3 := flg.isLt; have h4 := val.isLt; have h5 := h.isLt
  rw [toNat_flgField, toNat_assemble]; omega

@[simp] theorem valField_assemble : valField (assemble opc ax flg val h) = val := by
  apply BitVec.eq_of_toNat_eq
  have h1 := opc.isLt; have h2 := ax.isLt; have h3 := flg.isLt; have h4 := val.isLt; have h5 := h.isLt
  rw [toNat_valField, toNat_assemble]; omega

@[simp] theorem hField_assemble : hField (assemble opc ax flg val h) = h := by
  apply BitVec.eq_of_toNat_eq
  have h1 := opc.isLt; have h2 := ax.isLt; have h3 := flg.isLt; have h4 := val.isLt; have h5 := h.isLt
  rw [toNat_hField, toNat_assemble]; omega

end

/-- A word whose reserved field is zero is the word of its other fields. -/
theorem assemble_fields (w : OpWord) (hr : rsvField w = 0) :
    assemble (opcField w) (axField w) (flgField w) (valField w) (hField w) = w := by
  apply BitVec.eq_of_toNat_eq
  have hr' : w.toNat / 2 ^ 45 % 2 ^ 11 = 0 := by rw [← toNat_rsvField, hr]; rfl
  rw [toNat_assemble, toNat_opcField, toNat_axField, toNat_flgField, toNat_valField, toNat_hField]
  omega

/-- Two words are equal when their fields are. -/
theorem opWord_ext {w v : OpWord} : w = v ↔
    opcField w = opcField v ∧ rsvField w = rsvField v ∧ axField w = axField v ∧ flgField w = flgField v ∧
      valField w = valField v ∧ hField w = hField v := by
  constructor
  · rintro rfl; simp
  · rintro ⟨h1, h2, h3, h4, h5, h6⟩
    apply BitVec.eq_of_toNat_eq
    replace h1 := congrArg BitVec.toNat h1
    replace h2 := congrArg BitVec.toNat h2
    replace h3 := congrArg BitVec.toNat h3
    replace h4 := congrArg BitVec.toNat h4
    replace h5 := congrArg BitVec.toNat h5
    replace h6 := congrArg BitVec.toNat h6
    simp only [toNat_opcField, toNat_rsvField, toNat_axField, toNat_flgField, toNat_valField, toNat_hField] at *
    omega

theorem opcField_and (w m : OpWord) : opcField (w &&& m) = opcField w &&& opcField m := by
  apply BitVec.eq_of_getElem_eq; simp [opcField]
theorem rsvField_and (w m : OpWord) : rsvField (w &&& m) = rsvField w &&& rsvField m := by
  apply BitVec.eq_of_getElem_eq; simp [rsvField]
theorem axField_and (w m : OpWord) : axField (w &&& m) = axField w &&& axField m := by
  apply BitVec.eq_of_getElem_eq; simp [axField]
theorem flgField_and (w m : OpWord) : flgField (w &&& m) = flgField w &&& flgField m := by
  apply BitVec.eq_of_getElem_eq; simp [flgField]
theorem valField_and (w m : OpWord) : valField (w &&& m) = valField w &&& valField m := by
  apply BitVec.eq_of_getElem_eq; simp [valField]
theorem hField_and (w m : OpWord) : hField (w &&& m) = hField w &&& hField m := by
  apply BitVec.eq_of_getElem_eq; simp [hField]

@[simp] theorem Axis.ofBit_bit (ax : Axis) : Axis.ofBit ax.bit = ax := by cases ax <;> rfl

@[simp] theorem Axis.bit_ofBit (b : BitVec 1) : (Axis.ofBit b).bit = b := by
  have := b.isLt
  by_cases hb : b = 0
  · subst hb; rfl
  · have hb1 : b.toNat ≠ 0 := fun h => hb (BitVec.eq_of_toNat_eq (by simpa using h))
    have : b = 1 := BitVec.eq_of_toNat_eq (by simp; omega)
    subst this; rfl

/-- What it takes for the decoder to read an operation from a word (30_encoding.md R73, R74). -/
theorem decode_eq_ok {w : OpWord} {i : Instr} :
    decode w = .ok i ↔
      ∃ op, Opcode.ofCode? (opcField w) = some op ∧ rsvField w = 0 ∧ op.unusedZero w = true ∧ op.build w = i := by
  unfold decode
  cases h : Opcode.ofCode? (opcField w) with
  | none => simp
  | some op =>
    by_cases hr : rsvField w = 0#11
    · by_cases hu : op.unusedZero w = true <;> simp [hr, hu]
    · simp [hr]

end Sys2Proof
end

