-- ==== Sys2Proof/Laws/State.lean ====
section
/-! SUPPORT. One lemma per field for each named update of a state, so that no later proof unfolds one. -/

namespace Sys2Proof.Machine

/-! ### memWrite -/

@[simp] theorem State.memWrite_config (s : State) (a : Nat) (b : Byte) : (s.memWrite a b).config = s.config := rfl
@[simp] theorem State.memWrite_schedule (s : State) (a : Nat) (b : Byte) : (s.memWrite a b).schedule = s.schedule := rfl
@[simp] theorem State.memWrite_tstate (s : State) (a : Nat) (b : Byte) : (s.memWrite a b).tstate = s.tstate := rfl
@[simp] theorem State.memWrite_curReg (s : State) (a : Nat) (b : Byte) : (s.memWrite a b).curReg = s.curReg := rfl
@[simp] theorem State.memWrite_latX (s : State) (a : Nat) (b : Byte) : (s.memWrite a b).latX = s.latX := rfl
@[simp] theorem State.memWrite_latY (s : State) (a : Nat) (b : Byte) : (s.memWrite a b).latY = s.latY := rfl
@[simp] theorem State.memWrite_timEn (s : State) (a : Nat) (b : Byte) : (s.memWrite a b).timEn = s.timEn := rfl
@[simp] theorem State.memWrite_cnt (s : State) (a : Nat) (b : Byte) : (s.memWrite a b).cnt = s.cnt := rfl
@[simp] theorem State.memWrite_updPend (s : State) (a : Nat) (b : Byte) : (s.memWrite a b).updPend = s.updPend := rfl
@[simp] theorem State.memWrite_cmpPend (s : State) (a : Nat) (b : Byte) : (s.memWrite a b).cmpPend = s.cmpPend := rfl
@[simp] theorem State.memWrite_q (s : State) (a : Nat) (b : Byte) : (s.memWrite a b).q = s.q := rfl
@[simp] theorem State.memWrite_qHead (s : State) (a : Nat) (b : Byte) : (s.memWrite a b).qHead = s.qHead := rfl
@[simp] theorem State.memWrite_qTail (s : State) (a : Nat) (b : Byte) : (s.memWrite a b).qTail = s.qTail := rfl
@[simp] theorem State.memWrite_qCount (s : State) (a : Nat) (b : Byte) : (s.memWrite a b).qCount = s.qCount := rfl
@[simp] theorem State.memWrite_engBusy (s : State) (a : Nat) (b : Byte) : (s.memWrite a b).engBusy = s.engBusy := rfl
@[simp] theorem State.memWrite_tcPend (s : State) (a : Nat) (b : Byte) : (s.memWrite a b).tcPend = s.tcPend := rfl
@[simp] theorem State.memWrite_txPtr (s : State) (a : Nat) (b : Byte) : (s.memWrite a b).txPtr = s.txPtr := rfl
@[simp] theorem State.memWrite_txRem (s : State) (a : Nat) (b : Byte) : (s.memWrite a b).txRem = s.txRem := rfl
@[simp] theorem State.memWrite_fault (s : State) (a : Nat) (b : Byte) : (s.memWrite a b).fault = s.fault := rfl
@[simp] theorem State.memWrite_mem (s : State) (a : Nat) (b : Byte) : (s.memWrite a b).mem = Memory.write s.config s.mem a b := rfl
@[simp] theorem State.memWrite_busCmd (s : State) (a : Nat) (b : Byte) : (s.memWrite a b).busCmd = s.busCmd := rfl
@[simp] theorem State.memWrite_txOut (s : State) (a : Nat) (b : Byte) : (s.memWrite a b).txOut = s.txOut := rfl
@[simp] theorem State.memWrite_draws (s : State) (a : Nat) (b : Byte) : (s.memWrite a b).draws = s.draws := rfl
@[simp] theorem State.memWrite_returned (s : State) (a : Nat) (b : Byte) : (s.memWrite a b).returned = s.returned := rfl

/-! ### emitCmd -/

@[simp] theorem State.emitCmd_config (s : State) (c : BusCmd) : (s.emitCmd c).config = s.config := rfl
@[simp] theorem State.emitCmd_schedule (s : State) (c : BusCmd) : (s.emitCmd c).schedule = s.schedule := rfl
@[simp] theorem State.emitCmd_tstate (s : State) (c : BusCmd) : (s.emitCmd c).tstate = s.tstate := rfl
@[simp] theorem State.emitCmd_curReg (s : State) (c : BusCmd) : (s.emitCmd c).curReg = s.curReg := rfl
@[simp] theorem State.emitCmd_latX (s : State) (c : BusCmd) : (s.emitCmd c).latX = s.latX := rfl
@[simp] theorem State.emitCmd_latY (s : State) (c : BusCmd) : (s.emitCmd c).latY = s.latY := rfl
@[simp] theorem State.emitCmd_timEn (s : State) (c : BusCmd) : (s.emitCmd c).timEn = s.timEn := rfl
@[simp] theorem State.emitCmd_cnt (s : State) (c : BusCmd) : (s.emitCmd c).cnt = s.cnt := rfl
@[simp] theorem State.emitCmd_updPend (s : State) (c : BusCmd) : (s.emitCmd c).updPend = s.updPend := rfl
@[simp] theorem State.emitCmd_cmpPend (s : State) (c : BusCmd) : (s.emitCmd c).cmpPend = s.cmpPend := rfl
@[simp] theorem State.emitCmd_q (s : State) (c : BusCmd) : (s.emitCmd c).q = s.q := rfl
@[simp] theorem State.emitCmd_qHead (s : State) (c : BusCmd) : (s.emitCmd c).qHead = s.qHead := rfl
@[simp] theorem State.emitCmd_qTail (s : State) (c : BusCmd) : (s.emitCmd c).qTail = s.qTail := rfl
@[simp] theorem State.emitCmd_qCount (s : State) (c : BusCmd) : (s.emitCmd c).qCount = s.qCount := rfl
@[simp] theorem State.emitCmd_engBusy (s : State) (c : BusCmd) : (s.emitCmd c).engBusy = s.engBusy := rfl
@[simp] theorem State.emitCmd_tcPend (s : State) (c : BusCmd) : (s.emitCmd c).tcPend = s.tcPend := rfl
@[simp] theorem State.emitCmd_txPtr (s : State) (c : BusCmd) : (s.emitCmd c).txPtr = s.txPtr := rfl
@[simp] theorem State.emitCmd_txRem (s : State) (c : BusCmd) : (s.emitCmd c).txRem = s.txRem := rfl
@[simp] theorem State.emitCmd_fault (s : State) (c : BusCmd) : (s.emitCmd c).fault = s.fault := rfl
@[simp] theorem State.emitCmd_mem (s : State) (c : BusCmd) : (s.emitCmd c).mem = s.mem := rfl
@[simp] theorem State.emitCmd_busCmd (s : State) (c : BusCmd) : (s.emitCmd c).busCmd = s.busCmd ++ [c.code] := rfl
@[simp] theorem State.emitCmd_txOut (s : State) (c : BusCmd) : (s.emitCmd c).txOut = s.txOut := rfl
@[simp] theorem State.emitCmd_draws (s : State) (c : BusCmd) : (s.emitCmd c).draws = s.draws := rfl
@[simp] theorem State.emitCmd_returned (s : State) (c : BusCmd) : (s.emitCmd c).returned = s.returned := rfl

/-! ### emitTx -/

@[simp] theorem State.emitTx_config (s : State) (b : Byte) : (s.emitTx b).config = s.config := rfl
@[simp] theorem State.emitTx_schedule (s : State) (b : Byte) : (s.emitTx b).schedule = s.schedule := rfl
@[simp] theorem State.emitTx_tstate (s : State) (b : Byte) : (s.emitTx b).tstate = s.tstate := rfl
@[simp] theorem State.emitTx_curReg (s : State) (b : Byte) : (s.emitTx b).curReg = s.curReg := rfl
@[simp] theorem State.emitTx_latX (s : State) (b : Byte) : (s.emitTx b).latX = s.latX := rfl
@[simp] theorem State.emitTx_latY (s : State) (b : Byte) : (s.emitTx b).latY = s.latY := rfl
@[simp] theorem State.emitTx_timEn (s : State) (b : Byte) : (s.emitTx b).timEn = s.timEn := rfl
@[simp] theorem State.emitTx_cnt (s : State) (b : Byte) : (s.emitTx b).cnt = s.cnt := rfl
@[simp] theorem State.emitTx_updPend (s : State) (b : Byte) : (s.emitTx b).updPend = s.updPend := rfl
@[simp] theorem State.emitTx_cmpPend (s : State) (b : Byte) : (s.emitTx b).cmpPend = s.cmpPend := rfl
@[simp] theorem State.emitTx_q (s : State) (b : Byte) : (s.emitTx b).q = s.q := rfl
@[simp] theorem State.emitTx_qHead (s : State) (b : Byte) : (s.emitTx b).qHead = s.qHead := rfl
@[simp] theorem State.emitTx_qTail (s : State) (b : Byte) : (s.emitTx b).qTail = s.qTail := rfl
@[simp] theorem State.emitTx_qCount (s : State) (b : Byte) : (s.emitTx b).qCount = s.qCount := rfl
@[simp] theorem State.emitTx_engBusy (s : State) (b : Byte) : (s.emitTx b).engBusy = s.engBusy := rfl
@[simp] theorem State.emitTx_tcPend (s : State) (b : Byte) : (s.emitTx b).tcPend = s.tcPend := rfl
@[simp] theorem State.emitTx_txPtr (s : State) (b : Byte) : (s.emitTx b).txPtr = s.txPtr := rfl
@[simp] theorem State.emitTx_txRem (s : State) (b : Byte) : (s.emitTx b).txRem = s.txRem := rfl
@[simp] theorem State.emitTx_fault (s : State) (b : Byte) : (s.emitTx b).fault = s.fault := rfl
@[simp] theorem State.emitTx_mem (s : State) (b : Byte) : (s.emitTx b).mem = s.mem := rfl
@[simp] theorem State.emitTx_busCmd (s : State) (b : Byte) : (s.emitTx b).busCmd = s.busCmd := rfl
@[simp] theorem State.emitTx_txOut (s : State) (b : Byte) : (s.emitTx b).txOut = s.txOut ++ [b] := rfl
@[simp] theorem State.emitTx_draws (s : State) (b : Byte) : (s.emitTx b).draws = s.draws := rfl
@[simp] theorem State.emitTx_returned (s : State) (b : Byte) : (s.emitTx b).returned = s.returned := rfl

/-! ### raiseFault -/

@[simp] theorem State.raiseFault_config (s : State) (f : FaultBit) : (s.raiseFault f).config = s.config := rfl
@[simp] theorem State.raiseFault_schedule (s : State) (f : FaultBit) : (s.raiseFault f).schedule = s.schedule := rfl
@[simp] theorem State.raiseFault_tstate (s : State) (f : FaultBit) : (s.raiseFault f).tstate = s.tstate := rfl
@[simp] theorem State.raiseFault_curReg (s : State) (f : FaultBit) : (s.raiseFault f).curReg = s.curReg := rfl
@[simp] theorem State.raiseFault_latX (s : State) (f : FaultBit) : (s.raiseFault f).latX = s.latX := rfl
@[simp] theorem State.raiseFault_latY (s : State) (f : FaultBit) : (s.raiseFault f).latY = s.latY := rfl
@[simp] theorem State.raiseFault_timEn (s : State) (f : FaultBit) : (s.raiseFault f).timEn = s.timEn := rfl
@[simp] theorem State.raiseFault_cnt (s : State) (f : FaultBit) : (s.raiseFault f).cnt = s.cnt := rfl
@[simp] theorem State.raiseFault_updPend (s : State) (f : FaultBit) : (s.raiseFault f).updPend = s.updPend := rfl
@[simp] theorem State.raiseFault_cmpPend (s : State) (f : FaultBit) : (s.raiseFault f).cmpPend = s.cmpPend := rfl
@[simp] theorem State.raiseFault_q (s : State) (f : FaultBit) : (s.raiseFault f).q = s.q := rfl
@[simp] theorem State.raiseFault_qHead (s : State) (f : FaultBit) : (s.raiseFault f).qHead = s.qHead := rfl
@[simp] theorem State.raiseFault_qTail (s : State) (f : FaultBit) : (s.raiseFault f).qTail = s.qTail := rfl
@[simp] theorem State.raiseFault_qCount (s : State) (f : FaultBit) : (s.raiseFault f).qCount = s.qCount := rfl
@[simp] theorem State.raiseFault_engBusy (s : State) (f : FaultBit) : (s.raiseFault f).engBusy = s.engBusy := rfl
@[simp] theorem State.raiseFault_tcPend (s : State) (f : FaultBit) : (s.raiseFault f).tcPend = s.tcPend := rfl
@[simp] theorem State.raiseFault_txPtr (s : State) (f : FaultBit) : (s.raiseFault f).txPtr = s.txPtr := rfl
@[simp] theorem State.raiseFault_txRem (s : State) (f : FaultBit) : (s.raiseFault f).txRem = s.txRem := rfl
@[simp] theorem State.raiseFault_fault (s : State) (f : FaultBit) : (s.raiseFault f).fault = s.fault ||| f.mask := rfl
@[simp] theorem State.raiseFault_mem (s : State) (f : FaultBit) : (s.raiseFault f).mem = s.mem := rfl
@[simp] theorem State.raiseFault_busCmd (s : State) (f : FaultBit) : (s.raiseFault f).busCmd = s.busCmd := rfl
@[simp] theorem State.raiseFault_txOut (s : State) (f : FaultBit) : (s.raiseFault f).txOut = s.txOut := rfl
@[simp] theorem State.raiseFault_draws (s : State) (f : FaultBit) : (s.raiseFault f).draws = s.draws := rfl
@[simp] theorem State.raiseFault_returned (s : State) (f : FaultBit) : (s.raiseFault f).returned = s.returned := rfl

/-! ### leaveHandler -/

@[simp] theorem State.leaveHandler_config (s : State) : s.leaveHandler.config = s.config := rfl
@[simp] theorem State.leaveHandler_schedule (s : State) : s.leaveHandler.schedule = s.schedule := rfl
@[simp] theorem State.leaveHandler_tstate (s : State) : s.leaveHandler.tstate = s.tstate := rfl
@[simp] theorem State.leaveHandler_curReg (s : State) : s.leaveHandler.curReg = s.curReg := rfl
@[simp] theorem State.leaveHandler_latX (s : State) : s.leaveHandler.latX = s.latX := rfl
@[simp] theorem State.leaveHandler_latY (s : State) : s.leaveHandler.latY = s.latY := rfl
@[simp] theorem State.leaveHandler_timEn (s : State) : s.leaveHandler.timEn = s.timEn := rfl
@[simp] theorem State.leaveHandler_cnt (s : State) : s.leaveHandler.cnt = s.cnt := rfl
@[simp] theorem State.leaveHandler_updPend (s : State) : s.leaveHandler.updPend = s.updPend := rfl
@[simp] theorem State.leaveHandler_cmpPend (s : State) : s.leaveHandler.cmpPend = s.cmpPend := rfl
@[simp] theorem State.leaveHandler_q (s : State) : s.leaveHandler.q = s.q := rfl
@[simp] theorem State.leaveHandler_qHead (s : State) : s.leaveHandler.qHead = s.qHead := rfl
@[simp] theorem State.leaveHandler_qTail (s : State) : s.leaveHandler.qTail = s.qTail := rfl
@[simp] theorem State.leaveHandler_qCount (s : State) : s.leaveHandler.qCount = s.qCount := rfl
@[simp] theorem State.leaveHandler_engBusy (s : State) : s.leaveHandler.engBusy = s.engBusy := rfl
@[simp] theorem State.leaveHandler_tcPend (s : State) : s.leaveHandler.tcPend = s.tcPend := rfl
@[simp] theorem State.leaveHandler_txPtr (s : State) : s.leaveHandler.txPtr = s.txPtr := rfl
@[simp] theorem State.leaveHandler_txRem (s : State) : s.leaveHandler.txRem = s.txRem := rfl
@[simp] theorem State.leaveHandler_fault (s : State) : s.leaveHandler.fault = s.fault := rfl
@[simp] theorem State.leaveHandler_mem (s : State) : s.leaveHandler.mem = s.mem := rfl
@[simp] theorem State.leaveHandler_busCmd (s : State) : s.leaveHandler.busCmd = s.busCmd := rfl
@[simp] theorem State.leaveHandler_txOut (s : State) : s.leaveHandler.txOut = s.txOut := rfl
@[simp] theorem State.leaveHandler_draws (s : State) : s.leaveHandler.draws = s.draws := rfl
@[simp] theorem State.leaveHandler_returned (s : State) : s.leaveHandler.returned = s.returned := rfl

/-! ### setPending -/

@[simp] theorem State.setPending_config (s : State) (src : IrqSource) : (s.setPending src).config = s.config := by cases src <;> rfl
@[simp] theorem State.setPending_schedule (s : State) (src : IrqSource) : (s.setPending src).schedule = s.schedule := by cases src <;> rfl
@[simp] theorem State.setPending_tstate (s : State) (src : IrqSource) : (s.setPending src).tstate = s.tstate := by cases src <;> rfl
@[simp] theorem State.setPending_curReg (s : State) (src : IrqSource) : (s.setPending src).curReg = s.curReg := by cases src <;> rfl
@[simp] theorem State.setPending_latX (s : State) (src : IrqSource) : (s.setPending src).latX = s.latX := by cases src <;> rfl
@[simp] theorem State.setPending_latY (s : State) (src : IrqSource) : (s.setPending src).latY = s.latY := by cases src <;> rfl
@[simp] theorem State.setPending_timEn (s : State) (src : IrqSource) : (s.setPending src).timEn = s.timEn := by cases src <;> rfl
@[simp] theorem State.setPending_cnt (s : State) (src : IrqSource) : (s.setPending src).cnt = s.cnt := by cases src <;> rfl
@[simp] theorem State.setPending_q (s : State) (src : IrqSource) : (s.setPending src).q = s.q := by cases src <;> rfl
@[simp] theorem State.setPending_qHead (s : State) (src : IrqSource) : (s.setPending src).qHead = s.qHead := by cases src <;> rfl
@[simp] theorem State.setPending_qTail (s : State) (src : IrqSource) : (s.setPending src).qTail = s.qTail := by cases src <;> rfl
@[simp] theorem State.setPending_qCount (s : State) (src : IrqSource) : (s.setPending src).qCount = s.qCount := by cases src <;> rfl
@[simp] theorem State.setPending_engBusy (s : State) (src : IrqSource) : (s.setPending src).engBusy = s.engBusy := by cases src <;> rfl
@[simp] theorem State.setPending_txPtr (s : State) (src : IrqSource) : (s.setPending src).txPtr = s.txPtr := by cases src <;> rfl
@[simp] theorem State.setPending_txRem (s : State) (src : IrqSource) : (s.setPending src).txRem = s.txRem := by cases src <;> rfl
@[simp] theorem State.setPending_fault (s : State) (src : IrqSource) : (s.setPending src).fault = s.fault := by cases src <;> rfl
@[simp] theorem State.setPending_mem (s : State) (src : IrqSource) : (s.setPending src).mem = s.mem := by cases src <;> rfl
@[simp] theorem State.setPending_busCmd (s : State) (src : IrqSource) : (s.setPending src).busCmd = s.busCmd := by cases src <;> rfl
@[simp] theorem State.setPending_txOut (s : State) (src : IrqSource) : (s.setPending src).txOut = s.txOut := by cases src <;> rfl
@[simp] theorem State.setPending_draws (s : State) (src : IrqSource) : (s.setPending src).draws = s.draws := by cases src <;> rfl
@[simp] theorem State.setPending_returned (s : State) (src : IrqSource) : (s.setPending src).returned = s.returned := by cases src <;> rfl
@[simp] theorem State.setPending_update_updPend (s : State) : (s.setPending .update).updPend = true := rfl
@[simp] theorem State.setPending_update_cmpPend (s : State) : (s.setPending .update).cmpPend = s.cmpPend := rfl
@[simp] theorem State.setPending_update_tcPend (s : State) : (s.setPending .update).tcPend = s.tcPend := rfl
@[simp] theorem State.setPending_compare_updPend (s : State) : (s.setPending .compare).updPend = s.updPend := rfl
@[simp] theorem State.setPending_compare_cmpPend (s : State) : (s.setPending .compare).cmpPend = true := rfl
@[simp] theorem State.setPending_compare_tcPend (s : State) : (s.setPending .compare).tcPend = s.tcPend := rfl
@[simp] theorem State.setPending_busEvent_updPend (s : State) : (s.setPending .busEvent).updPend = s.updPend := rfl
@[simp] theorem State.setPending_busEvent_cmpPend (s : State) : (s.setPending .busEvent).cmpPend = s.cmpPend := rfl
@[simp] theorem State.setPending_busEvent_tcPend (s : State) : (s.setPending .busEvent).tcPend = s.tcPend := rfl
@[simp] theorem State.setPending_transferComplete_updPend (s : State) : (s.setPending .transferComplete).updPend = s.updPend := rfl
@[simp] theorem State.setPending_transferComplete_cmpPend (s : State) : (s.setPending .transferComplete).cmpPend = s.cmpPend := rfl
@[simp] theorem State.setPending_transferComplete_tcPend (s : State) : (s.setPending .transferComplete).tcPend = true := rfl

/-! ### enterHandler -/

@[simp] theorem State.enterHandler_config (s : State) (src : IrqSource) : (s.enterHandler src).config = s.config := by cases src <;> rfl
@[simp] theorem State.enterHandler_schedule (s : State) (src : IrqSource) : (s.enterHandler src).schedule = s.schedule := by cases src <;> rfl
@[simp] theorem State.enterHandler_tstate (s : State) (src : IrqSource) : (s.enterHandler src).tstate = s.tstate := by cases src <;> rfl
@[simp] theorem State.enterHandler_curReg (s : State) (src : IrqSource) : (s.enterHandler src).curReg = s.curReg := by cases src <;> rfl
@[simp] theorem State.enterHandler_latX (s : State) (src : IrqSource) : (s.enterHandler src).latX = s.latX := by cases src <;> rfl
@[simp] theorem State.enterHandler_latY (s : State) (src : IrqSource) : (s.enterHandler src).latY = s.latY := by cases src <;> rfl
@[simp] theorem State.enterHandler_timEn (s : State) (src : IrqSource) : (s.enterHandler src).timEn = s.timEn := by cases src <;> rfl
@[simp] theorem State.enterHandler_cnt (s : State) (src : IrqSource) : (s.enterHandler src).cnt = s.cnt := by cases src <;> rfl
@[simp] theorem State.enterHandler_q (s : State) (src : IrqSource) : (s.enterHandler src).q = s.q := by cases src <;> rfl
@[simp] theorem State.enterHandler_qHead (s : State) (src : IrqSource) : (s.enterHandler src).qHead = s.qHead := by cases src <;> rfl
@[simp] theorem State.enterHandler_qTail (s : State) (src : IrqSource) : (s.enterHandler src).qTail = s.qTail := by cases src <;> rfl
@[simp] theorem State.enterHandler_qCount (s : State) (src : IrqSource) : (s.enterHandler src).qCount = s.qCount := by cases src <;> rfl
@[simp] theorem State.enterHandler_engBusy (s : State) (src : IrqSource) : (s.enterHandler src).engBusy = s.engBusy := by cases src <;> rfl
@[simp] theorem State.enterHandler_txPtr (s : State) (src : IrqSource) : (s.enterHandler src).txPtr = s.txPtr := by cases src <;> rfl
@[simp] theorem State.enterHandler_txRem (s : State) (src : IrqSource) : (s.enterHandler src).txRem = s.txRem := by cases src <;> rfl
@[simp] theorem State.enterHandler_fault (s : State) (src : IrqSource) : (s.enterHandler src).fault = s.fault := by cases src <;> rfl
@[simp] theorem State.enterHandler_mem (s : State) (src : IrqSource) : (s.enterHandler src).mem = s.mem := by cases src <;> rfl
@[simp] theorem State.enterHandler_busCmd (s : State) (src : IrqSource) : (s.enterHandler src).busCmd = s.busCmd := by cases src <;> rfl
@[simp] theorem State.enterHandler_txOut (s : State) (src : IrqSource) : (s.enterHandler src).txOut = s.txOut := by cases src <;> rfl
@[simp] theorem State.enterHandler_draws (s : State) (src : IrqSource) : (s.enterHandler src).draws = s.draws := by cases src <;> rfl
@[simp] theorem State.enterHandler_returned (s : State) (src : IrqSource) : (s.enterHandler src).returned = s.returned := by cases src <;> rfl
@[simp] theorem State.enterHandler_update_updPend (s : State) : (s.enterHandler .update).updPend = false := rfl
@[simp] theorem State.enterHandler_update_cmpPend (s : State) : (s.enterHandler .update).cmpPend = s.cmpPend := rfl
@[simp] theorem State.enterHandler_update_tcPend (s : State) : (s.enterHandler .update).tcPend = s.tcPend := rfl
@[simp] theorem State.enterHandler_compare_updPend (s : State) : (s.enterHandler .compare).updPend = s.updPend := rfl
@[simp] theorem State.enterHandler_compare_cmpPend (s : State) : (s.enterHandler .compare).cmpPend = false := rfl
@[simp] theorem State.enterHandler_compare_tcPend (s : State) : (s.enterHandler .compare).tcPend = s.tcPend := rfl
@[simp] theorem State.enterHandler_busEvent_updPend (s : State) : (s.enterHandler .busEvent).updPend = s.updPend := rfl
@[simp] theorem State.enterHandler_busEvent_cmpPend (s : State) : (s.enterHandler .busEvent).cmpPend = s.cmpPend := rfl
@[simp] theorem State.enterHandler_busEvent_tcPend (s : State) : (s.enterHandler .busEvent).tcPend = s.tcPend := rfl
@[simp] theorem State.enterHandler_transferComplete_updPend (s : State) : (s.enterHandler .transferComplete).updPend = s.updPend := rfl
@[simp] theorem State.enterHandler_transferComplete_cmpPend (s : State) : (s.enterHandler .transferComplete).cmpPend = s.cmpPend := rfl
@[simp] theorem State.enterHandler_transferComplete_tcPend (s : State) : (s.enterHandler .transferComplete).tcPend = false := rfl

end Sys2Proof.Machine
end

