-- ==== Sys2Proof/Laws/Memory.lean ====
section
/-! SUPPORT. Memory: read after write, the canonical form, and what a run of byte writes leaves (20_memory.md R51-R53). -/

namespace Sys2Proof.Machine

theorem Memory.lookup_insert (m : Memory) (a a' : Nat) (b : Byte) :
    Memory.lookup (Memory.insert m a b) a' = if a' = a then some b else Memory.lookup m a' := by
  induction m with
  | nil => simp [Memory.insert, Memory.lookup]
  | cons p m ih =>
    obtain ⟨x, v⟩ := p
    simp only [Memory.insert]
    split
    · simp [Memory.lookup]
    · split
      · subst_vars; simp only [Memory.lookup]; split <;> rfl
      · simp only [Memory.lookup, ih]
        split <;> split <;> simp_all

theorem Memory.lookup_erase (m : Memory) (a a' : Nat) :
    Memory.lookup (Memory.erase m a) a' = if a' = a then none else Memory.lookup m a' := by
  induction m with
  | nil => simp [Memory.erase, Memory.lookup]
  | cons p m ih =>
    obtain ⟨x, v⟩ := p
    simp only [Memory.erase] at ih ⊢
    by_cases hx : x = a
    · subst hx
      simp only [bne_self_eq_false, Bool.false_eq_true, not_false_eq_true, List.filter_cons_of_neg, ih, Memory.lookup]
      split <;> rfl
    · have : (x != a) = true := by simpa using hx
      simp only [this, List.filter_cons_of_pos, Memory.lookup, ih]
      split <;> split <;> simp_all

/-- Read after write: the written byte at its address where the block determines the byte, every other address as before. -/
theorem Memory.read_write (c : Config) (m : Memory) (a a' : Nat) (b : Byte) :
    Memory.read c (Memory.write c m a b) a' =
      if a' = a ∧ Memory.unlisted c a ≠ none then some b else Memory.read c m a' := by
  unfold Memory.read Memory.write
  cases h : Memory.unlisted c a with
  | none => simp
  | some d =>
    by_cases ha : a' = a
    · subst ha
      simp only [h, ne_eq, reduceCtorEq, not_false_eq_true, and_self, if_true]
      split
      · next hb => simp [Memory.lookup_erase, hb]
      · simp [Memory.lookup_insert]
    · simp only [ha, false_and, if_false]
      cases Memory.unlisted c a' with
      | none => rfl
      | some d' => by_cases hb : b = d <;> simp [hb, Memory.lookup_erase, Memory.lookup_insert, ha]

/-- The block determines exactly the bytes of the frame buffer (20_memory.md R51, R53). -/
theorem Memory.unlisted_ne_none (c : Config) (a : Nat) :
    Memory.unlisted c a ≠ none ↔ c.frameBase.toNat ≤ a ∧ a < c.frameBase.toNat + frameLen := by
  unfold Memory.unlisted
  split
  · next h => simp only [ne_eq, List.getElem?_eq_none_iff, frameInit, List.length_cons, List.length_nil, frameLen]; omega
  · next h => simp only [ne_eq, not_true_eq_false, false_iff]; omega

theorem Memory.mem_insert {m : Memory} {a : Nat} {b : Byte} {p : Host.Cell} (h : p ∈ Memory.insert m a b) :
    p = (a, b) ∨ p ∈ m := by
  induction m with
  | nil => simpa [Memory.insert] using h
  | cons r m ih =>
    obtain ⟨x, v⟩ := r
    simp only [Memory.insert] at h
    split at h
    · simpa using h
    · split at h
      · rcases List.mem_cons.1 h with h | h
        · exact .inl h
        · exact .inr (List.mem_cons_of_mem _ h)
      · rcases List.mem_cons.1 h with h | h
        · exact .inr (h ▸ List.mem_cons_self)
        · exact (ih h).imp id (List.mem_cons_of_mem _)

theorem Memory.insert_rising {m : Memory} (a : Nat) (b : Byte) (h : m.Pairwise (fun p r => p.1 < r.1)) :
    (Memory.insert m a b).Pairwise (fun p r => p.1 < r.1) := by
  induction m with
  | nil => simp [Memory.insert]
  | cons r m ih =>
    obtain ⟨x, v⟩ := r
    rw [List.pairwise_cons] at h
    simp only [Memory.insert]
    split
    · next hlt =>
      refine List.pairwise_cons.2 ⟨fun p hp => ?_, List.pairwise_cons.2 h⟩
      rcases List.mem_cons.1 hp with rfl | hp
      · exact hlt
      · exact Nat.lt_trans hlt (h.1 p hp)
    · split
      · next he => subst he; exact List.pairwise_cons.2 h
      · next hnl hne =>
        refine List.pairwise_cons.2 ⟨fun p hp => ?_, ih h.2⟩
        rcases Memory.mem_insert hp with rfl | hp
        · show x < a; omega
        · exact h.1 p hp

/-- Every write keeps the canonical form. -/
theorem Memory.write_wf {c : Config} {m : Memory} (a : Nat) (b : Byte) (h : Memory.wf c m) :
    Memory.wf c (Memory.write c m a b) := by
  unfold Memory.write
  split
  · exact h
  · next d hd =>
    split
    · exact ⟨h.1.filter _, fun p hp => h.2 p (List.mem_filter.1 hp).1⟩
    · next hb =>
      refine ⟨Memory.insert_rising a b h.1, fun p hp => ?_⟩
      rcases Memory.mem_insert hp with rfl | hp
      · exact ⟨by simp [hd], by simpa [hd] using fun he => hb he.symm⟩
      · exact h.2 p hp

/-- Reading a byte after one write. -/
theorem State.readByte_memWrite (s : State) (a a' : Nat) (b : Byte) :
    (s.memWrite a b).readByte a' =
      if a' = a ∧ s.config.frameBase.toNat ≤ a ∧ a < s.config.frameBase.toNat + frameLen then some b
      else s.readByte a' := by
  simp only [State.readByte, State.memWrite_config, State.memWrite_mem, Memory.read_write, Memory.unlisted_ne_none]

/-- Where the block determines a byte (20_memory.md R51, R53). -/
theorem State.readByte_ne_none (s : State) (a : Nat) :
    s.readByte a ≠ none ↔ s.config.frameBase.toNat ≤ a ∧ a < s.config.frameBase.toNat + frameLen := by
  rw [← Memory.unlisted_ne_none]
  unfold State.readByte Memory.read
  cases Memory.unlisted s.config a <;> simp

/-- Byte writes change nothing but memory. -/
theorem State.writeBytes_eq (s : State) (a : Nat) (bs : List Byte) :
    s.writeBytes a bs = { s with mem := (s.writeBytes a bs).mem } := by
  induction bs generalizing s a with
  | nil => rfl
  | cons b bs ih => simp only [State.writeBytes]; rw [ih]; rfl

/-- Reading a byte after byte writes that stay in the frame buffer. -/
theorem State.readByte_writeBytes (s : State) (a : Nat) (bs : List Byte) (a' : Nat)
    (hlo : s.config.frameBase.toNat ≤ a) (hhi : a + bs.length ≤ s.config.frameBase.toNat + frameLen) :
    (s.writeBytes a bs).readByte a' = if a ≤ a' then (bs[a' - a]?).or (s.readByte a') else s.readByte a' := by
  induction bs generalizing s a with
  | nil => simp [State.writeBytes]
  | cons b bs ih =>
    simp only [List.length_cons] at hhi
    rw [State.writeBytes, ih _ _ (by simp; omega) (by simp; omega), State.readByte_memWrite]
    by_cases h1 : a' = a
    · subst h1; simp; omega
    · by_cases h2 : a ≤ a'
      · have h3 : a + 1 ≤ a' := by omega
        obtain ⟨k, rfl⟩ := Nat.exists_eq_add_of_le h3
        have h4 : a + 1 + k - a = k + 1 := by omega
        simp [h1, h2, h4]
      · have : ¬ a + 1 ≤ a' := by omega
        simp [h1, h2, this]

/-- Byte writes keep the canonical form. -/
theorem State.writeBytes_wf (s : State) (a : Nat) (bs : List Byte) (h : Memory.wf s.config s.mem) :
    Memory.wf s.config (s.writeBytes a bs).mem := by
  induction bs generalizing s a with
  | nil => exact h
  | cons b bs ih => exact ih (s.memWrite a b) (a + 1) (Memory.write_wf a b h)

/-- The reset state's memory has the canonical form, under every configuration. -/
theorem Memory.launch_wf (c : Config) : Memory.wf c (State.launch c).mem := by
  simp [Memory.wf, State.launch]

end Sys2Proof.Machine
end

