-- ==== Sys2Proof/Laws/Ops.lean ====
section
/-! SUPPORT. Everything each shared operation can do, said once: later proofs cite these and unfold no operation. -/

namespace Sys2Proof.Machine

/-- The effect of an operation's rule, without the conditions it runs under. -/
def effectOf : Instr → State → State
  | .reset, s => s.resetBlock
  | .timerStart, s => s.timerStart
  | .timerTick, s => s.timerTick
  | .updIsr, s => s.updateHandler
  | .cmpIsr, s => s.compareHandler
  | .busEvent f d, s => s.busEvent f d
  | .engineByte, s => s.engineByte
  | .tcIsr, s => s.transferComplete
  | .beginRead r, s => s.beginRead r
  | .format ax v, s => s.format ax v
  | .submit h, s => s.submit h
  | .enqueue h, s => s.enqueue h
  | .dequeue, s => s.dequeueLabelled
  | .engineStart h, s => s.engineStart h

/-- Every arm of `exec` performs its operation's effect. -/
theorem exec_eq_perform (i : Instr) (s : State) : exec i s = perform i (effectOf i) s := by cases i <;> rfl

/-- When `perform` answers a next state, and which. -/
theorem perform_eq_next {i : Instr} {f : State → State} {s t : State} :
    perform i f s = .next t ↔ s.config.WellFormed ∧ enabled i s = true ∧ t = f s := by
  unfold perform
  by_cases h : s.config.WellFormed <;> by_cases he : enabled i s = true <;> simp [h, he, eq_comm]

/-- When an operation answers a next state, and which. -/
theorem exec_eq_next {i : Instr} {s t : State} :
    exec i s = .next t ↔ s.config.WellFormed ∧ enabled i s = true ∧ t = effectOf i s := by
  rw [exec_eq_perform, perform_eq_next]

/-- An enabled operation under a well-formed configuration has its effect. -/
theorem exec_next {i : Instr} {s : State} (h : s.config.WellFormed) (he : enabled i s = true) :
    exec i s = .next (effectOf i s) := exec_eq_next.2 ⟨h, he, rfl⟩

/-- An operation that is not enabled is refused. -/
theorem exec_notEnabled {i : Instr} {s : State} (h : s.config.WellFormed) (he : enabled i s = false) :
    exec i s = .refused .notEnabled := by
  simp [exec_eq_perform, perform, h, he]

/-- Under an ill-formed configuration every operation is refused. -/
theorem exec_illFormed {s : State} (i : Instr) (h : ¬ s.config.WellFormed) : exec i s = .refused .illFormedConfig := by
  simp [exec_eq_perform, perform, h]

/-- When an illegal word answers a next state, and which. -/
theorem performIllegal_eq_next {s t : State} :
    performIllegal s = .next t ↔ s.config.WellFormed ∧ t = s.raiseFault .rsvd := by
  unfold performIllegal
  by_cases h : s.config.WellFormed <;> simp [h, eq_comm]

/-- The step at a state whose next word is known. -/
theorem step_cons {s : State} {w : OpWord} {ws : List OpWord} (h : s.schedule = w :: ws) :
    step s = match decode w with
      | .ok i => exec i { s with schedule := ws }
      | .error _ => performIllegal { s with schedule := ws } := by
  cases s
  cases h
  rfl

/-- Everything a step that answers a next state can have done. -/
theorem step_eq_next {s t : State} (h : step s = .next t) :
    ∃ w ws, s.schedule = w :: ws ∧
      ((∃ i, decode w = .ok i ∧ exec i { s with schedule := ws } = .next t) ∨
       (∃ e, decode w = .error e ∧ performIllegal { s with schedule := ws } = .next t)) := by
  cases hs : s.schedule with
  | nil => simp [step, fetchWord, hs] at h
  | cons w ws =>
    rw [step_cons hs] at h
    refine ⟨w, ws, rfl, ?_⟩
    cases hd : decode w with
    | ok i => rw [hd] at h; exact .inl ⟨i, rfl, h⟩
    | error e => rw [hd] at h; exact .inr ⟨e, rfl, h⟩

/-! ### The bus protocol state machine -/

theorem State.beginRead_idle {s : State} (h : s.tstate = .idle) (r : Byte) :
    s.beginRead r = { s with curReg := r, busCmd := s.busCmd ++ [0x0100#16], tstate := .awaitSb1 } := by
  simp [State.beginRead, h, State.emitCmd, BusCmd.code]

theorem State.beginRead_busy {s : State} (h : s.tstate ≠ .idle) (r : Byte) :
    s.beginRead r = { s with fault := s.fault ||| 0b0001#4 } := by
  simp [State.beginRead, h, State.raiseFault, FaultBit.mask]

/-- BEGIN_READ changes CUR_REG, BUSCMD, TSTATE and FAULT alone. -/
theorem State.beginRead_frame (s : State) (r : Byte) :
    s.beginRead r = { s with
      curReg := (s.beginRead r).curReg, busCmd := (s.beginRead r).busCmd
      tstate := (s.beginRead r).tstate, fault := (s.beginRead r).fault } := by
  by_cases h : s.tstate = .idle
  · rw [State.beginRead_idle h]
  · rw [State.beginRead_busy h]

/-- BUS_EVENT performs the row of its position or the fallback. -/
theorem State.busEvent_eq (s : State) (f : BitVec 4) (d : Byte) :
    s.busEvent f d = if rowTaken s.tstate f then s.performRow d else s.fallback := rfl

/-- BUS_EVENT changes TSTATE, the latches and BUSCMD alone. -/
theorem State.busEvent_frame (s : State) (f : BitVec 4) (d : Byte) :
    s.busEvent f d = { s with
      tstate := (s.busEvent f d).tstate, latX := (s.busEvent f d).latX
      latY := (s.busEvent f d).latY, busCmd := (s.busEvent f d).busCmd } := by
  rw [State.busEvent_eq]
  split
  · unfold State.performRow
    split <;> try rfl
    simp only [State.row6, State.latch]
    split
    · rfl
    · split <;> rfl
  · rfl

/-! ### The formatter -/

/-- FORMAT changes memory alone. -/
theorem State.format_frame (s : State) (ax : Axis) (v : Byte) :
    s.format ax v = { s with mem := (s.format ax v).mem } := State.writeBytes_eq ..

/-- The digits are those of decimal division (42_formatter.md R151). -/
theorem digitBytes_eq (v : Byte) : digitBytes v =
    [BitVec.ofNat 8 (0x30 + v.toNat / 100), BitVec.ofNat 8 (0x30 + v.toNat / 10 % 10),
      BitVec.ofNat 8 (0x30 + v.toNat % 10)] := by
  have := v.isLt
  have h : v.toNat / 10 / 10 % 10 = v.toNat / 100 := by omega
  simp [digitBytes, h]

/-- What every address reads as after FORMAT. -/
theorem State.readByte_format (s : State) (ax : Axis) (v : Byte) (a : Nat) :
    (s.format ax v).readByte a =
      if s.config.frameBase.toNat + fieldOffset ax ≤ a then
        ((digitBytes v)[a - (s.config.frameBase.toNat + fieldOffset ax)]?).or (s.readByte a)
      else s.readByte a := by
  apply State.readByte_writeBytes
  · omega
  · cases ax <;> simp [digitBytes, fieldOffset, frameLen]

/-- FORMAT keeps the canonical form of memory. -/
theorem State.format_wf (s : State) (ax : Axis) (v : Byte) (h : Memory.wf s.config s.mem) :
    Memory.wf (s.format ax v).config (s.format ax v).mem := by
  have hc : (s.format ax v).config = s.config := by rw [State.format_frame]
  rw [hc]
  exact State.writeBytes_wf s _ _ h

/-! ### The queue and the engine -/

theorem State.enqueue_full {s : State} (h : s.qCount = s.config.qcap) (x : Handle) : s.enqueue x = s := by
  simp [State.enqueue, h]

theorem State.enqueue_room {s : State} (h : s.qCount ≠ s.config.qcap) (x : Handle) :
    s.enqueue x = { s with q := s.q.set s.qTail x, qTail := (s.qTail + 1) % s.config.qcap, qCount := s.qCount + 1 } := by
  simp [State.enqueue, h, nextIndex]

/-- ENQUEUE changes Q, Q_TAIL and Q_COUNT alone. -/
theorem State.enqueue_frame (s : State) (x : Handle) :
    s.enqueue x = { s with q := (s.enqueue x).q, qTail := (s.enqueue x).qTail, qCount := (s.enqueue x).qCount } := by
  by_cases h : s.qCount = s.config.qcap
  · rw [State.enqueue_full h]
  · rw [State.enqueue_room h]

theorem State.dequeue_empty {s : State} (h : s.qCount = 0) :
    s.dequeue = (none, { s with fault := s.fault ||| 0b0010#4 }) := by
  simp [State.dequeue, h, State.raiseFault, FaultBit.mask]

theorem State.dequeue_held {s : State} (h : s.qCount ≠ 0) :
    s.dequeue = (some (s.entry s.qHead),
      { s with qHead := (s.qHead + 1) % s.config.qcap, qCount := s.qCount - 1 }) := by
  simp [State.dequeue, h, nextIndex]

/-- An index inside the storage reads the entry there. -/
theorem State.entry_eq {s : State} {i : Nat} (h : i < s.q.length) : s.entry i = s.q[i] := by
  simp [State.entry, h]

theorem State.engineStart_idle {s : State} (h : s.txRem = 0) (ht : s.tcPend = false) (x : Handle) :
    s.engineStart x = { s with engBusy := true, txPtr := x, txRem := s.config.txLen } := by
  simp [State.engineStart, h, ht]

theorem State.engineStart_busy {s : State} (h : s.txRem ≠ 0 ∨ s.tcPend = true) (x : Handle) :
    s.engineStart x = { s with fault := s.fault ||| 0b1000#4 } := by
  simp [State.engineStart, h, State.raiseFault, FaultBit.mask]

/-- ENGINE_START changes ENG_BUSY, TX_PTR, TX_REM and FAULT alone. -/
theorem State.engineStart_frame (s : State) (x : Handle) :
    s.engineStart x = { s with
      engBusy := (s.engineStart x).engBusy, txPtr := (s.engineStart x).txPtr
      txRem := (s.engineStart x).txRem, fault := (s.engineStart x).fault } := by
  unfold State.engineStart
  split <;> rfl

theorem State.submit_idle {s : State} (h : s.engBusy = false) (ht : s.tcPend = false) (x : Handle) :
    s.submit x = s.engineStart x := by
  simp [State.submit, h, ht]

theorem State.submit_busy {s : State} (h : s.engBusy = true ∨ s.tcPend = true) (x : Handle) :
    s.submit x = s.enqueue x := by
  unfold State.submit
  rw [if_neg]
  rintro ⟨h1, h2⟩
  simp [h1, h2] at h

/-- SUBMIT changes the queue's tail and the engine's registers, and FAULT, alone. -/
theorem State.submit_frame (s : State) (x : Handle) :
    s.submit x = { s with
      q := (s.submit x).q, qTail := (s.submit x).qTail, qCount := (s.submit x).qCount
      engBusy := (s.submit x).engBusy, txPtr := (s.submit x).txPtr
      txRem := (s.submit x).txRem, fault := (s.submit x).fault } := by
  unfold State.submit
  split
  · rw [State.engineStart_frame]
  · rw [State.enqueue_frame]

/-- ENGINE_BYTE at an address the block determines. -/
theorem State.engineByte_inside {s : State} {b : Byte} (h : s.readByte s.txPtr.toNat = some b) :
    s.engineByte = { s with
      txOut := s.txOut ++ [b], txPtr := s.txPtr + 1, txRem := s.txRem - 1
      tcPend := s.tcPend || decide (s.txRem - 1 = 0) } := by
  simp only [State.engineByte, State.engineRead, h]
  by_cases hz : s.txRem - 1 = 0 <;> simp [hz, State.emitTx, State.setPending]

/-- ENGINE_BYTE outside the frame buffer: a free draw. -/
theorem State.engineByte_outside {s : State} (h : s.readByte s.txPtr.toNat = none) :
    s.engineByte = { s with
      txOut := s.txOut ++ [Config.freeByte s.draws], draws := s.draws + 1
      txPtr := s.txPtr + 1, txRem := s.txRem - 1
      tcPend := s.tcPend || decide (s.txRem - 1 = 0) } := by
  simp only [State.engineByte, State.engineRead, h]
  by_cases hz : s.txRem - 1 = 0 <;> simp [hz, State.emitTx, State.setPending]

/-- ENGINE_BYTE changes TXOUT, the draws, TX_PTR, TX_REM and TC_PEND alone. -/
theorem State.engineByte_frame (s : State) :
    s.engineByte = { s with
      txOut := s.engineByte.txOut, draws := s.engineByte.draws, txPtr := s.engineByte.txPtr
      txRem := s.engineByte.txRem, tcPend := s.engineByte.tcPend } := by
  cases h : s.readByte s.txPtr.toNat with
  | none => rw [State.engineByte_outside h]
  | some b => rw [State.engineByte_inside h]

/-- TC_ISR with an empty queue. -/
theorem State.transferComplete_empty {s : State} (h : s.qCount = 0) :
    s.transferComplete = { s with tcPend := false, engBusy := false } := by
  simp [State.transferComplete, State.enterHandler, State.leaveHandler, h]

/-- TC_ISR with a handle queued. -/
theorem State.transferComplete_held {s : State} (h : s.qCount ≠ 0) :
    s.transferComplete =
      ({ s with tcPend := false, qHead := (s.qHead + 1) % s.config.qcap, qCount := s.qCount - 1 }).engineStart
        (s.entry s.qHead) := by
  have h' : 0 < s.qCount := Nat.pos_of_ne_zero h
  simp [State.transferComplete, State.enterHandler, State.leaveHandler, h', State.dequeue, h, nextIndex, State.entry]

/-- A unit-mode DEQUEUE with a handle queued. -/
theorem State.dequeueLabelled_held {s : State} (h : s.qCount ≠ 0) :
    s.dequeueLabelled = { s with
      qHead := (s.qHead + 1) % s.config.qcap, qCount := s.qCount - 1
      returned := s.returned ++ [s.entry s.qHead] } := by
  simp [State.dequeueLabelled, State.dequeue_held h]

/-- A unit-mode DEQUEUE with an empty queue. -/
theorem State.dequeueLabelled_empty {s : State} (h : s.qCount = 0) :
    s.dequeueLabelled = { s with fault := s.fault ||| 0b0010#4 } := by
  simp [State.dequeueLabelled, State.dequeue_empty h]

/-- TC_ISR changes TC_PEND, the queue's head and count, the engine's registers and FAULT alone. -/
theorem State.transferComplete_frame (s : State) :
    s.transferComplete = { s with
      tcPend := s.transferComplete.tcPend, qHead := s.transferComplete.qHead, qCount := s.transferComplete.qCount
      engBusy := s.transferComplete.engBusy, txPtr := s.transferComplete.txPtr
      txRem := s.transferComplete.txRem, fault := s.transferComplete.fault } := by
  by_cases h : s.qCount = 0
  · rw [State.transferComplete_empty h]
  · rw [State.transferComplete_held h, State.engineStart_frame]

/-- DEQUEUE changes the queue's head and count, FAULT and the handles returned alone. -/
theorem State.dequeueLabelled_frame (s : State) :
    s.dequeueLabelled = { s with
      qHead := s.dequeueLabelled.qHead, qCount := s.dequeueLabelled.qCount
      fault := s.dequeueLabelled.fault, returned := s.dequeueLabelled.returned } := by
  by_cases h : s.qCount = 0
  · rw [State.dequeueLabelled_empty h]
  · rw [State.dequeueLabelled_held h]

/-! ### The scheduler and RESET -/

theorem State.timerStart_eq (s : State) :
    s.timerStart = { s with timEn := true, updPend := s.updPend || s.config.timerInitUpdate } := by
  unfold State.timerStart State.setPending
  cases h : s.config.timerInitUpdate <;> simp [h]

/-- A tick at the end of the period. -/
theorem State.timerTick_rollover {s : State} (h : s.cnt = s.config.period - 1) :
    s.timerTick = { s with cnt := 0, updPend := true } := by
  simp [State.timerTick, h, State.setPending]

/-- A tick within the period. -/
theorem State.timerTick_within {s : State} (h : s.cnt ≠ s.config.period - 1) :
    s.timerTick = { s with
      cnt := nextCount s.config s.cnt
      cmpPend := s.cmpPend || decide (nextCount s.config s.cnt = s.config.cmp) } := by
  simp only [State.timerTick, h, if_false, State.setPending]
  by_cases hc : nextCount s.config s.cnt = s.config.cmp <;> simp [hc]

/-- A tick changes CNT, UPD_PEND and CMP_PEND alone. -/
theorem State.timerTick_frame (s : State) :
    s.timerTick = { s with
      cnt := s.timerTick.cnt, updPend := s.timerTick.updPend, cmpPend := s.timerTick.cmpPend } := by
  by_cases h : s.cnt = s.config.period - 1
  · rw [State.timerTick_rollover h]
  · rw [State.timerTick_within h]

/-- The update handler: BEGIN_READ's effect, then FORMAT's memory, on the state with UPD_PEND cleared. -/
theorem State.updateHandler_eq (s : State) :
    s.updateHandler =
      { ({ s with updPend := false } : State).beginRead s.config.regX with mem := (s.format .x s.latX).mem } := by
  have hb := State.beginRead_frame ({ s with updPend := false } : State) s.config.regX
  show (({ s with updPend := false } : State).beginRead s.config.regX).format .x
    (({ s with updPend := false } : State).beginRead s.config.regX).latX = _
  rw [hb, State.format_frame]
  rfl

/-- The compare handler: BEGIN_READ's effect, FORMAT's memory and SUBMIT's effect, on the state with CMP_PEND cleared. -/
theorem State.compareHandler_eq (s : State) :
    s.compareHandler =
      ({ ({ s with cmpPend := false } : State).beginRead s.config.regY with
        mem := (s.format .y s.latY).mem } : State).submit s.config.frameBase := by
  have hb := State.beginRead_frame ({ s with cmpPend := false } : State) s.config.regY
  show ((({ s with cmpPend := false } : State).beginRead s.config.regY).format .y
    (({ s with cmpPend := false } : State).beginRead s.config.regY).latY).submit
    ((({ s with cmpPend := false } : State).beginRead s.config.regY).format .y
    (({ s with cmpPend := false } : State).beginRead s.config.regY).latY).config.frameBase = _
  rw [hb, State.format_frame]
  rfl

/-- The update handler changes UPD_PEND, what BEGIN_READ writes, and memory alone. -/
theorem State.updateHandler_frame (s : State) :
    s.updateHandler = { s with
      updPend := s.updateHandler.updPend, curReg := s.updateHandler.curReg, busCmd := s.updateHandler.busCmd
      tstate := s.updateHandler.tstate, fault := s.updateHandler.fault, mem := s.updateHandler.mem } := by
  rw [State.updateHandler_eq, State.beginRead_frame]

/-- The compare handler changes CMP_PEND, what BEGIN_READ and SUBMIT write, and memory alone. -/
theorem State.compareHandler_frame (s : State) :
    s.compareHandler = { s with
      cmpPend := s.compareHandler.cmpPend, curReg := s.compareHandler.curReg, busCmd := s.compareHandler.busCmd
      tstate := s.compareHandler.tstate, fault := s.compareHandler.fault, mem := s.compareHandler.mem
      q := s.compareHandler.q, qTail := s.compareHandler.qTail, qCount := s.compareHandler.qCount
      engBusy := s.compareHandler.engBusy, txPtr := s.compareHandler.txPtr, txRem := s.compareHandler.txRem } := by
  rw [State.compareHandler_eq, State.submit_frame, State.beginRead_frame]

/-- The counter does not truncate below the period (00_scope.md R9). -/
theorem nextCount_eq {c : Config} (hc : c.WellFormed) {n : Nat} (hn : n < c.period - 1) : nextCount c n = n + 1 := by
  have := ((Config.wellFormed_iff c).1 hc).2.1
  exact Nat.mod_eq_of_lt (by omega)

/-- RESET changes no more than the registers of its rule and memory. -/
theorem State.resetBlock_frame (s : State) :
    s.resetBlock = { State.launch s.config with
      schedule := s.schedule, q := s.q, fault := s.fault, mem := s.resetBlock.mem, busCmd := s.busCmd
      txOut := s.txOut, draws := s.draws, returned := s.returned } := by
  unfold State.resetBlock
  rw [State.writeBytes_eq]
  rfl

/-- What every address reads as after RESET. -/
theorem State.readByte_resetBlock (s : State) (a : Nat) :
    s.resetBlock.readByte a =
      if s.config.frameBase.toNat ≤ a then ((frameInit s.config)[a - s.config.frameBase.toNat]?).or (s.readByte a)
      else s.readByte a := by
  have h := State.readByte_writeBytes s.resetRegisters s.config.frameBase.toNat (frameInit s.config) a
    (Nat.le_refl _) (by simp [frameInit, frameLen, State.resetRegisters])
  simpa [State.resetBlock, State.resetRegisters, State.readByte] using h

end Sys2Proof.Machine
end

