-- ==== Sys2Proof/Laws/Fields.lean ====
section
/-! SUPPORT. For each operation, one lemma per field it leaves unchanged. -/

namespace Sys2Proof.Machine

/-! ### beginRead -/

@[simp] theorem State.beginRead_config (s : State) (r : Byte) : (s.beginRead r).config = s.config := by rw [State.beginRead_frame]
@[simp] theorem State.beginRead_schedule (s : State) (r : Byte) : (s.beginRead r).schedule = s.schedule := by rw [State.beginRead_frame]
@[simp] theorem State.beginRead_latX (s : State) (r : Byte) : (s.beginRead r).latX = s.latX := by rw [State.beginRead_frame]
@[simp] theorem State.beginRead_latY (s : State) (r : Byte) : (s.beginRead r).latY = s.latY := by rw [State.beginRead_frame]
@[simp] theorem State.beginRead_timEn (s : State) (r : Byte) : (s.beginRead r).timEn = s.timEn := by rw [State.beginRead_frame]
@[simp] theorem State.beginRead_cnt (s : State) (r : Byte) : (s.beginRead r).cnt = s.cnt := by rw [State.beginRead_frame]
@[simp] theorem State.beginRead_updPend (s : State) (r : Byte) : (s.beginRead r).updPend = s.updPend := by rw [State.beginRead_frame]
@[simp] theorem State.beginRead_cmpPend (s : State) (r : Byte) : (s.beginRead r).cmpPend = s.cmpPend := by rw [State.beginRead_frame]
@[simp] theorem State.beginRead_q (s : State) (r : Byte) : (s.beginRead r).q = s.q := by rw [State.beginRead_frame]
@[simp] theorem State.beginRead_qHead (s : State) (r : Byte) : (s.beginRead r).qHead = s.qHead := by rw [State.beginRead_frame]
@[simp] theorem State.beginRead_qTail (s : State) (r : Byte) : (s.beginRead r).qTail = s.qTail := by rw [State.beginRead_frame]
@[simp] theorem State.beginRead_qCount (s : State) (r : Byte) : (s.beginRead r).qCount = s.qCount := by rw [State.beginRead_frame]
@[simp] theorem State.beginRead_engBusy (s : State) (r : Byte) : (s.beginRead r).engBusy = s.engBusy := by rw [State.beginRead_frame]
@[simp] theorem State.beginRead_tcPend (s : State) (r : Byte) : (s.beginRead r).tcPend = s.tcPend := by rw [State.beginRead_frame]
@[simp] theorem State.beginRead_txPtr (s : State) (r : Byte) : (s.beginRead r).txPtr = s.txPtr := by rw [State.beginRead_frame]
@[simp] theorem State.beginRead_txRem (s : State) (r : Byte) : (s.beginRead r).txRem = s.txRem := by rw [State.beginRead_frame]
@[simp] theorem State.beginRead_mem (s : State) (r : Byte) : (s.beginRead r).mem = s.mem := by rw [State.beginRead_frame]
@[simp] theorem State.beginRead_txOut (s : State) (r : Byte) : (s.beginRead r).txOut = s.txOut := by rw [State.beginRead_frame]
@[simp] theorem State.beginRead_draws (s : State) (r : Byte) : (s.beginRead r).draws = s.draws := by rw [State.beginRead_frame]
@[simp] theorem State.beginRead_returned (s : State) (r : Byte) : (s.beginRead r).returned = s.returned := by rw [State.beginRead_frame]

/-! ### busEvent -/

@[simp] theorem State.busEvent_config (s : State) (f : BitVec 4) (d : Byte) : (s.busEvent f d).config = s.config := by rw [State.busEvent_frame]
@[simp] theorem State.busEvent_schedule (s : State) (f : BitVec 4) (d : Byte) : (s.busEvent f d).schedule = s.schedule := by rw [State.busEvent_frame]
@[simp] theorem State.busEvent_curReg (s : State) (f : BitVec 4) (d : Byte) : (s.busEvent f d).curReg = s.curReg := by rw [State.busEvent_frame]
@[simp] theorem State.busEvent_timEn (s : State) (f : BitVec 4) (d : Byte) : (s.busEvent f d).timEn = s.timEn := by rw [State.busEvent_frame]
@[simp] theorem State.busEvent_cnt (s : State) (f : BitVec 4) (d : Byte) : (s.busEvent f d).cnt = s.cnt := by rw [State.busEvent_frame]
@[simp] theorem State.busEvent_updPend (s : State) (f : BitVec 4) (d : Byte) : (s.busEvent f d).updPend = s.updPend := by rw [State.busEvent_frame]
@[simp] theorem State.busEvent_cmpPend (s : State) (f : BitVec 4) (d : Byte) : (s.busEvent f d).cmpPend = s.cmpPend := by rw [State.busEvent_frame]
@[simp] theorem State.busEvent_q (s : State) (f : BitVec 4) (d : Byte) : (s.busEvent f d).q = s.q := by rw [State.busEvent_frame]
@[simp] theorem State.busEvent_qHead (s : State) (f : BitVec 4) (d : Byte) : (s.busEvent f d).qHead = s.qHead := by rw [State.busEvent_frame]
@[simp] theorem State.busEvent_qTail (s : State) (f : BitVec 4) (d : Byte) : (s.busEvent f d).qTail = s.qTail := by rw [State.busEvent_frame]
@[simp] theorem State.busEvent_qCount (s : State) (f : BitVec 4) (d : Byte) : (s.busEvent f d).qCount = s.qCount := by rw [State.busEvent_frame]
@[simp] theorem State.busEvent_engBusy (s : State) (f : BitVec 4) (d : Byte) : (s.busEvent f d).engBusy = s.engBusy := by rw [State.busEvent_frame]
@[simp] theorem State.busEvent_tcPend (s : State) (f : BitVec 4) (d : Byte) : (s.busEvent f d).tcPend = s.tcPend := by rw [State.busEvent_frame]
@[simp] theorem State.busEvent_txPtr (s : State) (f : BitVec 4) (d : Byte) : (s.busEvent f d).txPtr = s.txPtr := by rw [State.busEvent_frame]
@[simp] theorem State.busEvent_txRem (s : State) (f : BitVec 4) (d : Byte) : (s.busEvent f d).txRem = s.txRem := by rw [State.busEvent_frame]
@[simp] theorem State.busEvent_fault (s : State) (f : BitVec 4) (d : Byte) : (s.busEvent f d).fault = s.fault := by rw [State.busEvent_frame]
@[simp] theorem State.busEvent_mem (s : State) (f : BitVec 4) (d : Byte) : (s.busEvent f d).mem = s.mem := by rw [State.busEvent_frame]
@[simp] theorem State.busEvent_txOut (s : State) (f : BitVec 4) (d : Byte) : (s.busEvent f d).txOut = s.txOut := by rw [State.busEvent_frame]
@[simp] theorem State.busEvent_draws (s : State) (f : BitVec 4) (d : Byte) : (s.busEvent f d).draws = s.draws := by rw [State.busEvent_frame]
@[simp] theorem State.busEvent_returned (s : State) (f : BitVec 4) (d : Byte) : (s.busEvent f d).returned = s.returned := by rw [State.busEvent_frame]

/-! ### format -/

@[simp] theorem State.format_config (s : State) (ax : Axis) (v : Byte) : (s.format ax v).config = s.config := by rw [State.format_frame]
@[simp] theorem State.format_schedule (s : State) (ax : Axis) (v : Byte) : (s.format ax v).schedule = s.schedule := by rw [State.format_frame]
@[simp] theorem State.format_tstate (s : State) (ax : Axis) (v : Byte) : (s.format ax v).tstate = s.tstate := by rw [State.format_frame]
@[simp] theorem State.format_curReg (s : State) (ax : Axis) (v : Byte) : (s.format ax v).curReg = s.curReg := by rw [State.format_frame]
@[simp] theorem State.format_latX (s : State) (ax : Axis) (v : Byte) : (s.format ax v).latX = s.latX := by rw [State.format_frame]
@[simp] theorem State.format_latY (s : State) (ax : Axis) (v : Byte) : (s.format ax v).latY = s.latY := by rw [State.format_frame]
@[simp] theorem State.format_timEn (s : State) (ax : Axis) (v : Byte) : (s.format ax v).timEn = s.timEn := by rw [State.format_frame]
@[simp] theorem State.format_cnt (s : State) (ax : Axis) (v : Byte) : (s.format ax v).cnt = s.cnt := by rw [State.format_frame]
@[simp] theorem State.format_updPend (s : State) (ax : Axis) (v : Byte) : (s.format ax v).updPend = s.updPend := by rw [State.format_frame]
@[simp] theorem State.format_cmpPend (s : State) (ax : Axis) (v : Byte) : (s.format ax v).cmpPend = s.cmpPend := by rw [State.format_frame]
@[simp] theorem State.format_q (s : State) (ax : Axis) (v : Byte) : (s.format ax v).q = s.q := by rw [State.format_frame]
@[simp] theorem State.format_qHead (s : State) (ax : Axis) (v : Byte) : (s.format ax v).qHead = s.qHead := by rw [State.format_frame]
@[simp] theorem State.format_qTail (s : State) (ax : Axis) (v : Byte) : (s.format ax v).qTail = s.qTail := by rw [State.format_frame]
@[simp] theorem State.format_qCount (s : State) (ax : Axis) (v : Byte) : (s.format ax v).qCount = s.qCount := by rw [State.format_frame]
@[simp] theorem State.format_engBusy (s : State) (ax : Axis) (v : Byte) : (s.format ax v).engBusy = s.engBusy := by rw [State.format_frame]
@[simp] theorem State.format_tcPend (s : State) (ax : Axis) (v : Byte) : (s.format ax v).tcPend = s.tcPend := by rw [State.format_frame]
@[simp] theorem State.format_txPtr (s : State) (ax : Axis) (v : Byte) : (s.format ax v).txPtr = s.txPtr := by rw [State.format_frame]
@[simp] theorem State.format_txRem (s : State) (ax : Axis) (v : Byte) : (s.format ax v).txRem = s.txRem := by rw [State.format_frame]
@[simp] theorem State.format_fault (s : State) (ax : Axis) (v : Byte) : (s.format ax v).fault = s.fault := by rw [State.format_frame]
@[simp] theorem State.format_busCmd (s : State) (ax : Axis) (v : Byte) : (s.format ax v).busCmd = s.busCmd := by rw [State.format_frame]
@[simp] theorem State.format_txOut (s : State) (ax : Axis) (v : Byte) : (s.format ax v).txOut = s.txOut := by rw [State.format_frame]
@[simp] theorem State.format_draws (s : State) (ax : Axis) (v : Byte) : (s.format ax v).draws = s.draws := by rw [State.format_frame]
@[simp] theorem State.format_returned (s : State) (ax : Axis) (v : Byte) : (s.format ax v).returned = s.returned := by rw [State.format_frame]

/-! ### enqueue -/

@[simp] theorem State.enqueue_config (s : State) (x : Handle) : (s.enqueue x).config = s.config := by rw [State.enqueue_frame]
@[simp] theorem State.enqueue_schedule (s : State) (x : Handle) : (s.enqueue x).schedule = s.schedule := by rw [State.enqueue_frame]
@[simp] theorem State.enqueue_tstate (s : State) (x : Handle) : (s.enqueue x).tstate = s.tstate := by rw [State.enqueue_frame]
@[simp] theorem State.enqueue_curReg (s : State) (x : Handle) : (s.enqueue x).curReg = s.curReg := by rw [State.enqueue_frame]
@[simp] theorem State.enqueue_latX (s : State) (x : Handle) : (s.enqueue x).latX = s.latX := by rw [State.enqueue_frame]
@[simp] theorem State.enqueue_latY (s : State) (x : Handle) : (s.enqueue x).latY = s.latY := by rw [State.enqueue_frame]
@[simp] theorem State.enqueue_timEn (s : State) (x : Handle) : (s.enqueue x).timEn = s.timEn := by rw [State.enqueue_frame]
@[simp] theorem State.enqueue_cnt (s : State) (x : Handle) : (s.enqueue x).cnt = s.cnt := by rw [State.enqueue_frame]
@[simp] theorem State.enqueue_updPend (s : State) (x : Handle) : (s.enqueue x).updPend = s.updPend := by rw [State.enqueue_frame]
@[simp] theorem State.enqueue_cmpPend (s : State) (x : Handle) : (s.enqueue x).cmpPend = s.cmpPend := by rw [State.enqueue_frame]
@[simp] theorem State.enqueue_qHead (s : State) (x : Handle) : (s.enqueue x).qHead = s.qHead := by rw [State.enqueue_frame]
@[simp] theorem State.enqueue_engBusy (s : State) (x : Handle) : (s.enqueue x).engBusy = s.engBusy := by rw [State.enqueue_frame]
@[simp] theorem State.enqueue_tcPend (s : State) (x : Handle) : (s.enqueue x).tcPend = s.tcPend := by rw [State.enqueue_frame]
@[simp] theorem State.enqueue_txPtr (s : State) (x : Handle) : (s.enqueue x).txPtr = s.txPtr := by rw [State.enqueue_frame]
@[simp] theorem State.enqueue_txRem (s : State) (x : Handle) : (s.enqueue x).txRem = s.txRem := by rw [State.enqueue_frame]
@[simp] theorem State.enqueue_fault (s : State) (x : Handle) : (s.enqueue x).fault = s.fault := by rw [State.enqueue_frame]
@[simp] theorem State.enqueue_mem (s : State) (x : Handle) : (s.enqueue x).mem = s.mem := by rw [State.enqueue_frame]
@[simp] theorem State.enqueue_busCmd (s : State) (x : Handle) : (s.enqueue x).busCmd = s.busCmd := by rw [State.enqueue_frame]
@[simp] theorem State.enqueue_txOut (s : State) (x : Handle) : (s.enqueue x).txOut = s.txOut := by rw [State.enqueue_frame]
@[simp] theorem State.enqueue_draws (s : State) (x : Handle) : (s.enqueue x).draws = s.draws := by rw [State.enqueue_frame]
@[simp] theorem State.enqueue_returned (s : State) (x : Handle) : (s.enqueue x).returned = s.returned := by rw [State.enqueue_frame]

/-! ### engineStart -/

@[simp] theorem State.engineStart_config (s : State) (x : Handle) : (s.engineStart x).config = s.config := by rw [State.engineStart_frame]
@[simp] theorem State.engineStart_schedule (s : State) (x : Handle) : (s.engineStart x).schedule = s.schedule := by rw [State.engineStart_frame]
@[simp] theorem State.engineStart_tstate (s : State) (x : Handle) : (s.engineStart x).tstate = s.tstate := by rw [State.engineStart_frame]
@[simp] theorem State.engineStart_curReg (s : State) (x : Handle) : (s.engineStart x).curReg = s.curReg := by rw [State.engineStart_frame]
@[simp] theorem State.engineStart_latX (s : State) (x : Handle) : (s.engineStart x).latX = s.latX := by rw [State.engineStart_frame]
@[simp] theorem State.engineStart_latY (s : State) (x : Handle) : (s.engineStart x).latY = s.latY := by rw [State.engineStart_frame]
@[simp] theorem State.engineStart_timEn (s : State) (x : Handle) : (s.engineStart x).timEn = s.timEn := by rw [State.engineStart_frame]
@[simp] theorem State.engineStart_cnt (s : State) (x : Handle) : (s.engineStart x).cnt = s.cnt := by rw [State.engineStart_frame]
@[simp] theorem State.engineStart_updPend (s : State) (x : Handle) : (s.engineStart x).updPend = s.updPend := by rw [State.engineStart_frame]
@[simp] theorem State.engineStart_cmpPend (s : State) (x : Handle) : (s.engineStart x).cmpPend = s.cmpPend := by rw [State.engineStart_frame]
@[simp] theorem State.engineStart_q (s : State) (x : Handle) : (s.engineStart x).q = s.q := by rw [State.engineStart_frame]
@[simp] theorem State.engineStart_qHead (s : State) (x : Handle) : (s.engineStart x).qHead = s.qHead := by rw [State.engineStart_frame]
@[simp] theorem State.engineStart_qTail (s : State) (x : Handle) : (s.engineStart x).qTail = s.qTail := by rw [State.engineStart_frame]
@[simp] theorem State.engineStart_qCount (s : State) (x : Handle) : (s.engineStart x).qCount = s.qCount := by rw [State.engineStart_frame]
@[simp] theorem State.engineStart_tcPend (s : State) (x : Handle) : (s.engineStart x).tcPend = s.tcPend := by rw [State.engineStart_frame]
@[simp] theorem State.engineStart_mem (s : State) (x : Handle) : (s.engineStart x).mem = s.mem := by rw [State.engineStart_frame]
@[simp] theorem State.engineStart_busCmd (s : State) (x : Handle) : (s.engineStart x).busCmd = s.busCmd := by rw [State.engineStart_frame]
@[simp] theorem State.engineStart_txOut (s : State) (x : Handle) : (s.engineStart x).txOut = s.txOut := by rw [State.engineStart_frame]
@[simp] theorem State.engineStart_draws (s : State) (x : Handle) : (s.engineStart x).draws = s.draws := by rw [State.engineStart_frame]
@[simp] theorem State.engineStart_returned (s : State) (x : Handle) : (s.engineStart x).returned = s.returned := by rw [State.engineStart_frame]

/-! ### submit -/

@[simp] theorem State.submit_config (s : State) (x : Handle) : (s.submit x).config = s.config := by rw [State.submit_frame]
@[simp] theorem State.submit_schedule (s : State) (x : Handle) : (s.submit x).schedule = s.schedule := by rw [State.submit_frame]
@[simp] theorem State.submit_tstate (s : State) (x : Handle) : (s.submit x).tstate = s.tstate := by rw [State.submit_frame]
@[simp] theorem State.submit_curReg (s : State) (x : Handle) : (s.submit x).curReg = s.curReg := by rw [State.submit_frame]
@[simp] theorem State.submit_latX (s : State) (x : Handle) : (s.submit x).latX = s.latX := by rw [State.submit_frame]
@[simp] theorem State.submit_latY (s : State) (x : Handle) : (s.submit x).latY = s.latY := by rw [State.submit_frame]
@[simp] theorem State.submit_timEn (s : State) (x : Handle) : (s.submit x).timEn = s.timEn := by rw [State.submit_frame]
@[simp] theorem State.submit_cnt (s : State) (x : Handle) : (s.submit x).cnt = s.cnt := by rw [State.submit_frame]
@[simp] theorem State.submit_updPend (s : State) (x : Handle) : (s.submit x).updPend = s.updPend := by rw [State.submit_frame]
@[simp] theorem State.submit_cmpPend (s : State) (x : Handle) : (s.submit x).cmpPend = s.cmpPend := by rw [State.submit_frame]
@[simp] theorem State.submit_qHead (s : State) (x : Handle) : (s.submit x).qHead = s.qHead := by rw [State.submit_frame]
@[simp] theorem State.submit_tcPend (s : State) (x : Handle) : (s.submit x).tcPend = s.tcPend := by rw [State.submit_frame]
@[simp] theorem State.submit_mem (s : State) (x : Handle) : (s.submit x).mem = s.mem := by rw [State.submit_frame]
@[simp] theorem State.submit_busCmd (s : State) (x : Handle) : (s.submit x).busCmd = s.busCmd := by rw [State.submit_frame]
@[simp] theorem State.submit_txOut (s : State) (x : Handle) : (s.submit x).txOut = s.txOut := by rw [State.submit_frame]
@[simp] theorem State.submit_draws (s : State) (x : Handle) : (s.submit x).draws = s.draws := by rw [State.submit_frame]
@[simp] theorem State.submit_returned (s : State) (x : Handle) : (s.submit x).returned = s.returned := by rw [State.submit_frame]

/-! ### engineByte -/

@[simp] theorem State.engineByte_config (s : State) : s.engineByte.config = s.config := by rw [State.engineByte_frame]
@[simp] theorem State.engineByte_schedule (s : State) : s.engineByte.schedule = s.schedule := by rw [State.engineByte_frame]
@[simp] theorem State.engineByte_tstate (s : State) : s.engineByte.tstate = s.tstate := by rw [State.engineByte_frame]
@[simp] theorem State.engineByte_curReg (s : State) : s.engineByte.curReg = s.curReg := by rw [State.engineByte_frame]
@[simp] theorem State.engineByte_latX (s : State) : s.engineByte.latX = s.latX := by rw [State.engineByte_frame]
@[simp] theorem State.engineByte_latY (s : State) : s.engineByte.latY = s.latY := by rw [State.engineByte_frame]
@[simp] theorem State.engineByte_timEn (s : State) : s.engineByte.timEn = s.timEn := by rw [State.engineByte_frame]
@[simp] theorem State.engineByte_cnt (s : State) : s.engineByte.cnt = s.cnt := by rw [State.engineByte_frame]
@[simp] theorem State.engineByte_updPend (s : State) : s.engineByte.updPend = s.updPend := by rw [State.engineByte_frame]
@[simp] theorem State.engineByte_cmpPend (s : State) : s.engineByte.cmpPend = s.cmpPend := by rw [State.engineByte_frame]
@[simp] theorem State.engineByte_q (s : State) : s.engineByte.q = s.q := by rw [State.engineByte_frame]
@[simp] theorem State.engineByte_qHead (s : State) : s.engineByte.qHead = s.qHead := by rw [State.engineByte_frame]
@[simp] theorem State.engineByte_qTail (s : State) : s.engineByte.qTail = s.qTail := by rw [State.engineByte_frame]
@[simp] theorem State.engineByte_qCount (s : State) : s.engineByte.qCount = s.qCount := by rw [State.engineByte_frame]
@[simp] theorem State.engineByte_engBusy (s : State) : s.engineByte.engBusy = s.engBusy := by rw [State.engineByte_frame]
@[simp] theorem State.engineByte_fault (s : State) : s.engineByte.fault = s.fault := by rw [State.engineByte_frame]
@[simp] theorem State.engineByte_mem (s : State) : s.engineByte.mem = s.mem := by rw [State.engineByte_frame]
@[simp] theorem State.engineByte_busCmd (s : State) : s.engineByte.busCmd = s.busCmd := by rw [State.engineByte_frame]
@[simp] theorem State.engineByte_returned (s : State) : s.engineByte.returned = s.returned := by rw [State.engineByte_frame]

/-! ### transferComplete -/

@[simp] theorem State.transferComplete_config (s : State) : s.transferComplete.config = s.config := by rw [State.transferComplete_frame]
@[simp] theorem State.transferComplete_schedule (s : State) : s.transferComplete.schedule = s.schedule := by rw [State.transferComplete_frame]
@[simp] theorem State.transferComplete_tstate (s : State) : s.transferComplete.tstate = s.tstate := by rw [State.transferComplete_frame]
@[simp] theorem State.transferComplete_curReg (s : State) : s.transferComplete.curReg = s.curReg := by rw [State.transferComplete_frame]
@[simp] theorem State.transferComplete_latX (s : State) : s.transferComplete.latX = s.latX := by rw [State.transferComplete_frame]
@[simp] theorem State.transferComplete_latY (s : State) : s.transferComplete.latY = s.latY := by rw [State.transferComplete_frame]
@[simp] theorem State.transferComplete_timEn (s : State) : s.transferComplete.timEn = s.timEn := by rw [State.transferComplete_frame]
@[simp] theorem State.transferComplete_cnt (s : State) : s.transferComplete.cnt = s.cnt := by rw [State.transferComplete_frame]
@[simp] theorem State.transferComplete_updPend (s : State) : s.transferComplete.updPend = s.updPend := by rw [State.transferComplete_frame]
@[simp] theorem State.transferComplete_cmpPend (s : State) : s.transferComplete.cmpPend = s.cmpPend := by rw [State.transferComplete_frame]
@[simp] theorem State.transferComplete_q (s : State) : s.transferComplete.q = s.q := by rw [State.transferComplete_frame]
@[simp] theorem State.transferComplete_qTail (s : State) : s.transferComplete.qTail = s.qTail := by rw [State.transferComplete_frame]
@[simp] theorem State.transferComplete_mem (s : State) : s.transferComplete.mem = s.mem := by rw [State.transferComplete_frame]
@[simp] theorem State.transferComplete_busCmd (s : State) : s.transferComplete.busCmd = s.busCmd := by rw [State.transferComplete_frame]
@[simp] theorem State.transferComplete_txOut (s : State) : s.transferComplete.txOut = s.txOut := by rw [State.transferComplete_frame]
@[simp] theorem State.transferComplete_draws (s : State) : s.transferComplete.draws = s.draws := by rw [State.transferComplete_frame]
@[simp] theorem State.transferComplete_returned (s : State) : s.transferComplete.returned = s.returned := by rw [State.transferComplete_frame]

/-! ### dequeueLabelled -/

@[simp] theorem State.dequeueLabelled_config (s : State) : s.dequeueLabelled.config = s.config := by rw [State.dequeueLabelled_frame]
@[simp] theorem State.dequeueLabelled_schedule (s : State) : s.dequeueLabelled.schedule = s.schedule := by rw [State.dequeueLabelled_frame]
@[simp] theorem State.dequeueLabelled_tstate (s : State) : s.dequeueLabelled.tstate = s.tstate := by rw [State.dequeueLabelled_frame]
@[simp] theorem State.dequeueLabelled_curReg (s : State) : s.dequeueLabelled.curReg = s.curReg := by rw [State.dequeueLabelled_frame]
@[simp] theorem State.dequeueLabelled_latX (s : State) : s.dequeueLabelled.latX = s.latX := by rw [State.dequeueLabelled_frame]
@[simp] theorem State.dequeueLabelled_latY (s : State) : s.dequeueLabelled.latY = s.latY := by rw [State.dequeueLabelled_frame]
@[simp] theorem State.dequeueLabelled_timEn (s : State) : s.dequeueLabelled.timEn = s.timEn := by rw [State.dequeueLabelled_frame]
@[simp] theorem State.dequeueLabelled_cnt (s : State) : s.dequeueLabelled.cnt = s.cnt := by rw [State.dequeueLabelled_frame]
@[simp] theorem State.dequeueLabelled_updPend (s : State) : s.dequeueLabelled.updPend = s.updPend := by rw [State.dequeueLabelled_frame]
@[simp] theorem State.dequeueLabelled_cmpPend (s : State) : s.dequeueLabelled.cmpPend = s.cmpPend := by rw [State.dequeueLabelled_frame]
@[simp] theorem State.dequeueLabelled_q (s : State) : s.dequeueLabelled.q = s.q := by rw [State.dequeueLabelled_frame]
@[simp] theorem State.dequeueLabelled_qTail (s : State) : s.dequeueLabelled.qTail = s.qTail := by rw [State.dequeueLabelled_frame]
@[simp] theorem State.dequeueLabelled_engBusy (s : State) : s.dequeueLabelled.engBusy = s.engBusy := by rw [State.dequeueLabelled_frame]
@[simp] theorem State.dequeueLabelled_tcPend (s : State) : s.dequeueLabelled.tcPend = s.tcPend := by rw [State.dequeueLabelled_frame]
@[simp] theorem State.dequeueLabelled_txPtr (s : State) : s.dequeueLabelled.txPtr = s.txPtr := by rw [State.dequeueLabelled_frame]
@[simp] theorem State.dequeueLabelled_txRem (s : State) : s.dequeueLabelled.txRem = s.txRem := by rw [State.dequeueLabelled_frame]
@[simp] theorem State.dequeueLabelled_mem (s : State) : s.dequeueLabelled.mem = s.mem := by rw [State.dequeueLabelled_frame]
@[simp] theorem State.dequeueLabelled_busCmd (s : State) : s.dequeueLabelled.busCmd = s.busCmd := by rw [State.dequeueLabelled_frame]
@[simp] theorem State.dequeueLabelled_txOut (s : State) : s.dequeueLabelled.txOut = s.txOut := by rw [State.dequeueLabelled_frame]
@[simp] theorem State.dequeueLabelled_draws (s : State) : s.dequeueLabelled.draws = s.draws := by rw [State.dequeueLabelled_frame]

/-! ### timerTick -/

@[simp] theorem State.timerTick_config (s : State) : s.timerTick.config = s.config := by rw [State.timerTick_frame]
@[simp] theorem State.timerTick_schedule (s : State) : s.timerTick.schedule = s.schedule := by rw [State.timerTick_frame]
@[simp] theorem State.timerTick_tstate (s : State) : s.timerTick.tstate = s.tstate := by rw [State.timerTick_frame]
@[simp] theorem State.timerTick_curReg (s : State) : s.timerTick.curReg = s.curReg := by rw [State.timerTick_frame]
@[simp] theorem State.timerTick_latX (s : State) : s.timerTick.latX = s.latX := by rw [State.timerTick_frame]
@[simp] theorem State.timerTick_latY (s : State) : s.timerTick.latY = s.latY := by rw [State.timerTick_frame]
@[simp] theorem State.timerTick_timEn (s : State) : s.timerTick.timEn = s.timEn := by rw [State.timerTick_frame]
@[simp] theorem State.timerTick_q (s : State) : s.timerTick.q = s.q := by rw [State.timerTick_frame]
@[simp] theorem State.timerTick_qHead (s : State) : s.timerTick.qHead = s.qHead := by rw [State.timerTick_frame]
@[simp] theorem State.timerTick_qTail (s : State) : s.timerTick.qTail = s.qTail := by rw [State.timerTick_frame]
@[simp] theorem State.timerTick_qCount (s : State) : s.timerTick.qCount = s.qCount := by rw [State.timerTick_frame]
@[simp] theorem State.timerTick_engBusy (s : State) : s.timerTick.engBusy = s.engBusy := by rw [State.timerTick_frame]
@[simp] theorem State.timerTick_tcPend (s : State) : s.timerTick.tcPend = s.tcPend := by rw [State.timerTick_frame]
@[simp] theorem State.timerTick_txPtr (s : State) : s.timerTick.txPtr = s.txPtr := by rw [State.timerTick_frame]
@[simp] theorem State.timerTick_txRem (s : State) : s.timerTick.txRem = s.txRem := by rw [State.timerTick_frame]
@[simp] theorem State.timerTick_fault (s : State) : s.timerTick.fault = s.fault := by rw [State.timerTick_frame]
@[simp] theorem State.timerTick_mem (s : State) : s.timerTick.mem = s.mem := by rw [State.timerTick_frame]
@[simp] theorem State.timerTick_busCmd (s : State) : s.timerTick.busCmd = s.busCmd := by rw [State.timerTick_frame]
@[simp] theorem State.timerTick_txOut (s : State) : s.timerTick.txOut = s.txOut := by rw [State.timerTick_frame]
@[simp] theorem State.timerTick_draws (s : State) : s.timerTick.draws = s.draws := by rw [State.timerTick_frame]
@[simp] theorem State.timerTick_returned (s : State) : s.timerTick.returned = s.returned := by rw [State.timerTick_frame]

/-! ### updateHandler -/

@[simp] theorem State.updateHandler_config (s : State) : s.updateHandler.config = s.config := by rw [State.updateHandler_frame]
@[simp] theorem State.updateHandler_schedule (s : State) : s.updateHandler.schedule = s.schedule := by rw [State.updateHandler_frame]
@[simp] theorem State.updateHandler_latX (s : State) : s.updateHandler.latX = s.latX := by rw [State.updateHandler_frame]
@[simp] theorem State.updateHandler_latY (s : State) : s.updateHandler.latY = s.latY := by rw [State.updateHandler_frame]
@[simp] theorem State.updateHandler_timEn (s : State) : s.updateHandler.timEn = s.timEn := by rw [State.updateHandler_frame]
@[simp] theorem State.updateHandler_cnt (s : State) : s.updateHandler.cnt = s.cnt := by rw [State.updateHandler_frame]
@[simp] theorem State.updateHandler_cmpPend (s : State) : s.updateHandler.cmpPend = s.cmpPend := by rw [State.updateHandler_frame]
@[simp] theorem State.updateHandler_q (s : State) : s.updateHandler.q = s.q := by rw [State.updateHandler_frame]
@[simp] theorem State.updateHandler_qHead (s : State) : s.updateHandler.qHead = s.qHead := by rw [State.updateHandler_frame]
@[simp] theorem State.updateHandler_qTail (s : State) : s.updateHandler.qTail = s.qTail := by rw [State.updateHandler_frame]
@[simp] theorem State.updateHandler_qCount (s : State) : s.updateHandler.qCount = s.qCount := by rw [State.updateHandler_frame]
@[simp] theorem State.updateHandler_engBusy (s : State) : s.updateHandler.engBusy = s.engBusy := by rw [State.updateHandler_frame]
@[simp] theorem State.updateHandler_tcPend (s : State) : s.updateHandler.tcPend = s.tcPend := by rw [State.updateHandler_frame]
@[simp] theorem State.updateHandler_txPtr (s : State) : s.updateHandler.txPtr = s.txPtr := by rw [State.updateHandler_frame]
@[simp] theorem State.updateHandler_txRem (s : State) : s.updateHandler.txRem = s.txRem := by rw [State.updateHandler_frame]
@[simp] theorem State.updateHandler_txOut (s : State) : s.updateHandler.txOut = s.txOut := by rw [State.updateHandler_frame]
@[simp] theorem State.updateHandler_draws (s : State) : s.updateHandler.draws = s.draws := by rw [State.updateHandler_frame]
@[simp] theorem State.updateHandler_returned (s : State) : s.updateHandler.returned = s.returned := by rw [State.updateHandler_frame]

/-! ### compareHandler -/

@[simp] theorem State.compareHandler_config (s : State) : s.compareHandler.config = s.config := by rw [State.compareHandler_frame]
@[simp] theorem State.compareHandler_schedule (s : State) : s.compareHandler.schedule = s.schedule := by rw [State.compareHandler_frame]
@[simp] theorem State.compareHandler_latX (s : State) : s.compareHandler.latX = s.latX := by rw [State.compareHandler_frame]
@[simp] theorem State.compareHandler_latY (s : State) : s.compareHandler.latY = s.latY := by rw [State.compareHandler_frame]
@[simp] theorem State.compareHandler_timEn (s : State) : s.compareHandler.timEn = s.timEn := by rw [State.compareHandler_frame]
@[simp] theorem State.compareHandler_cnt (s : State) : s.compareHandler.cnt = s.cnt := by rw [State.compareHandler_frame]
@[simp] theorem State.compareHandler_updPend (s : State) : s.compareHandler.updPend = s.updPend := by rw [State.compareHandler_frame]
@[simp] theorem State.compareHandler_qHead (s : State) : s.compareHandler.qHead = s.qHead := by rw [State.compareHandler_frame]
@[simp] theorem State.compareHandler_tcPend (s : State) : s.compareHandler.tcPend = s.tcPend := by rw [State.compareHandler_frame]
@[simp] theorem State.compareHandler_txOut (s : State) : s.compareHandler.txOut = s.txOut := by rw [State.compareHandler_frame]
@[simp] theorem State.compareHandler_draws (s : State) : s.compareHandler.draws = s.draws := by rw [State.compareHandler_frame]
@[simp] theorem State.compareHandler_returned (s : State) : s.compareHandler.returned = s.returned := by rw [State.compareHandler_frame]

/-! ### timerStart, resetBlock -/

@[simp] theorem State.timerStart_config (s : State) : s.timerStart.config = s.config := by rw [State.timerStart_eq]
@[simp] theorem State.timerStart_schedule (s : State) : s.timerStart.schedule = s.schedule := by rw [State.timerStart_eq]
@[simp] theorem State.timerStart_tstate (s : State) : s.timerStart.tstate = s.tstate := by rw [State.timerStart_eq]
@[simp] theorem State.timerStart_curReg (s : State) : s.timerStart.curReg = s.curReg := by rw [State.timerStart_eq]
@[simp] theorem State.timerStart_latX (s : State) : s.timerStart.latX = s.latX := by rw [State.timerStart_eq]
@[simp] theorem State.timerStart_latY (s : State) : s.timerStart.latY = s.latY := by rw [State.timerStart_eq]
@[simp] theorem State.timerStart_cnt (s : State) : s.timerStart.cnt = s.cnt := by rw [State.timerStart_eq]
@[simp] theorem State.timerStart_cmpPend (s : State) : s.timerStart.cmpPend = s.cmpPend := by rw [State.timerStart_eq]
@[simp] theorem State.timerStart_q (s : State) : s.timerStart.q = s.q := by rw [State.timerStart_eq]
@[simp] theorem State.timerStart_qHead (s : State) : s.timerStart.qHead = s.qHead := by rw [State.timerStart_eq]
@[simp] theorem State.timerStart_qTail (s : State) : s.timerStart.qTail = s.qTail := by rw [State.timerStart_eq]
@[simp] theorem State.timerStart_qCount (s : State) : s.timerStart.qCount = s.qCount := by rw [State.timerStart_eq]
@[simp] theorem State.timerStart_engBusy (s : State) : s.timerStart.engBusy = s.engBusy := by rw [State.timerStart_eq]
@[simp] theorem State.timerStart_tcPend (s : State) : s.timerStart.tcPend = s.tcPend := by rw [State.timerStart_eq]
@[simp] theorem State.timerStart_txPtr (s : State) : s.timerStart.txPtr = s.txPtr := by rw [State.timerStart_eq]
@[simp] theorem State.timerStart_txRem (s : State) : s.timerStart.txRem = s.txRem := by rw [State.timerStart_eq]
@[simp] theorem State.timerStart_fault (s : State) : s.timerStart.fault = s.fault := by rw [State.timerStart_eq]
@[simp] theorem State.timerStart_mem (s : State) : s.timerStart.mem = s.mem := by rw [State.timerStart_eq]
@[simp] theorem State.timerStart_busCmd (s : State) : s.timerStart.busCmd = s.busCmd := by rw [State.timerStart_eq]
@[simp] theorem State.timerStart_txOut (s : State) : s.timerStart.txOut = s.txOut := by rw [State.timerStart_eq]
@[simp] theorem State.timerStart_draws (s : State) : s.timerStart.draws = s.draws := by rw [State.timerStart_eq]
@[simp] theorem State.timerStart_returned (s : State) : s.timerStart.returned = s.returned := by rw [State.timerStart_eq]
@[simp] theorem State.resetBlock_config (s : State) : s.resetBlock.config = s.config := by rw [State.resetBlock_frame]; rfl
@[simp] theorem State.resetBlock_schedule (s : State) : s.resetBlock.schedule = s.schedule := by rw [State.resetBlock_frame]
@[simp] theorem State.resetBlock_q (s : State) : s.resetBlock.q = s.q := by rw [State.resetBlock_frame]
@[simp] theorem State.resetBlock_fault (s : State) : s.resetBlock.fault = s.fault := by rw [State.resetBlock_frame]
@[simp] theorem State.resetBlock_busCmd (s : State) : s.resetBlock.busCmd = s.busCmd := by rw [State.resetBlock_frame]
@[simp] theorem State.resetBlock_txOut (s : State) : s.resetBlock.txOut = s.txOut := by rw [State.resetBlock_frame]
@[simp] theorem State.resetBlock_draws (s : State) : s.resetBlock.draws = s.draws := by rw [State.resetBlock_frame]
@[simp] theorem State.resetBlock_returned (s : State) : s.resetBlock.returned = s.returned := by rw [State.resetBlock_frame]
@[simp] theorem State.resetBlock_tstate (s : State) : s.resetBlock.tstate = .idle := by rw [State.resetBlock_frame]; rfl
@[simp] theorem State.resetBlock_curReg (s : State) : s.resetBlock.curReg = 0 := by rw [State.resetBlock_frame]; rfl
@[simp] theorem State.resetBlock_latX (s : State) : s.resetBlock.latX = 0 := by rw [State.resetBlock_frame]; rfl
@[simp] theorem State.resetBlock_latY (s : State) : s.resetBlock.latY = 0 := by rw [State.resetBlock_frame]; rfl
@[simp] theorem State.resetBlock_timEn (s : State) : s.resetBlock.timEn = false := by rw [State.resetBlock_frame]; rfl
@[simp] theorem State.resetBlock_cnt (s : State) : s.resetBlock.cnt = 0 := by rw [State.resetBlock_frame]; rfl
@[simp] theorem State.resetBlock_updPend (s : State) : s.resetBlock.updPend = false := by rw [State.resetBlock_frame]; rfl
@[simp] theorem State.resetBlock_cmpPend (s : State) : s.resetBlock.cmpPend = false := by rw [State.resetBlock_frame]; rfl
@[simp] theorem State.resetBlock_qHead (s : State) : s.resetBlock.qHead = 0 := by rw [State.resetBlock_frame]; rfl
@[simp] theorem State.resetBlock_qTail (s : State) : s.resetBlock.qTail = 0 := by rw [State.resetBlock_frame]; rfl
@[simp] theorem State.resetBlock_qCount (s : State) : s.resetBlock.qCount = 0 := by rw [State.resetBlock_frame]; rfl
@[simp] theorem State.resetBlock_engBusy (s : State) : s.resetBlock.engBusy = false := by rw [State.resetBlock_frame]; rfl
@[simp] theorem State.resetBlock_tcPend (s : State) : s.resetBlock.tcPend = false := by rw [State.resetBlock_frame]; rfl
@[simp] theorem State.resetBlock_txPtr (s : State) : s.resetBlock.txPtr = 0 := by rw [State.resetBlock_frame]; rfl
@[simp] theorem State.resetBlock_txRem (s : State) : s.resetBlock.txRem = 0 := by rw [State.resetBlock_frame]; rfl

end Sys2Proof.Machine
end

