-- ==== Sys2Proof/Laws/PerInstr.lean ====
section
/-! SUPPORT. Per operation: the word the encoder writes leaves the reserved field zero and carries the operation's code
(30_encoding.md R72, R73). -/

namespace Sys2Proof.Laws.LegalFields

/-- The encoder's word has RSV = 0 and an OPC that is not reserved. -/
def Statement (i : Instr) : Prop :=
  rsvField (encode i) = 0 ∧ (opcField (encode i)).toNat ≤ 0x0D

theorem reset : Statement .reset := ⟨rsvField_assemble .., by simp [encode]⟩
theorem timerStart : Statement .timerStart := ⟨rsvField_assemble .., by simp [encode]⟩
theorem timerTick : Statement .timerTick := ⟨rsvField_assemble .., by simp [encode]⟩
theorem updIsr : Statement .updIsr := ⟨rsvField_assemble .., by simp [encode]⟩
theorem cmpIsr : Statement .cmpIsr := ⟨rsvField_assemble .., by simp [encode]⟩
theorem busEvent (f : BitVec 4) (d : Byte) : Statement (.busEvent f d) := ⟨rsvField_assemble .., by simp [encode]⟩
theorem engineByte : Statement .engineByte := ⟨rsvField_assemble .., by simp [encode]⟩
theorem tcIsr : Statement .tcIsr := ⟨rsvField_assemble .., by simp [encode]⟩
theorem beginRead (r : Byte) : Statement (.beginRead r) := ⟨rsvField_assemble .., by simp [encode]⟩
theorem format (ax : Axis) (v : Byte) : Statement (.format ax v) := ⟨rsvField_assemble .., by simp [encode]⟩
theorem submit (h : Handle) : Statement (.submit h) := ⟨rsvField_assemble .., by simp [encode]⟩
theorem enqueue (h : Handle) : Statement (.enqueue h) := ⟨rsvField_assemble .., by simp [encode]⟩
theorem dequeue : Statement .dequeue := ⟨rsvField_assemble .., by simp [encode]⟩
theorem engineStart (h : Handle) : Statement (.engineStart h) := ⟨rsvField_assemble .., by simp [encode]⟩

end Sys2Proof.Laws.LegalFields
end

