-- ==== Sys2Proof/Laws/Queue.lean ====
section
/-! SUPPORT. What the queue holds after an ENQUEUE and after a DEQUEUE, and what it holds otherwise (10_state.md R40;
43_queue_dispatch.md R160, R161). -/

namespace Sys2Proof.Machine

/-- What the queue holds depends on the configuration, the entries, Q_HEAD and Q_COUNT alone. -/
theorem State.contents_congr {s t : State} (hc : t.config = s.config) (hq : t.q = s.q) (hh : t.qHead = s.qHead)
    (hn : t.qCount = s.qCount) : t.contents = s.contents := by
  simp [State.contents, State.entry, hc, hq, hh, hn]

/-- The invariant of the ring depends on the configuration and the queue's registers alone. -/
theorem State.queueInv_congr {s t : State} (hc : t.config = s.config) (hq : t.q = s.q) (hh : t.qHead = s.qHead)
    (ht : t.qTail = s.qTail) (hn : t.qCount = s.qCount) : t.QueueInv ↔ s.QueueInv := by
  unfold State.QueueInv; rw [hc, hq, hh, ht, hn]

/-- Two positions of the ring less than a whole turn apart are different entries. -/
theorem ring_index_ne {cap h i n : Nat} (hh : h < cap) (hi : i < n) (hn : n < cap) : (h + n) % cap ≠ (h + i) % cap := by
  intro he
  by_cases ha : h + n < cap
  · rw [Nat.mod_eq_of_lt ha, Nat.mod_eq_of_lt (by omega)] at he; omega
  · rw [Nat.mod_eq_sub_mod (by omega), Nat.mod_eq_of_lt (by omega)] at he
    by_cases hb : h + i < cap
    · rw [Nat.mod_eq_of_lt hb] at he; omega
    · rw [Nat.mod_eq_sub_mod (by omega : h + i ≥ cap), Nat.mod_eq_of_lt (by omega)] at he; omega

/-- An ENQUEUE that finds room appends its handle to what the queue holds. -/
theorem State.contents_enqueue {s : State} (hi : s.QueueInv) (hf : s.qCount ≠ s.config.qcap) (h : Handle) :
    (s.enqueue h).contents = s.contents ++ [h] := by
  rw [State.enqueue_room hf]
  obtain ⟨h1, h2, h3, h4⟩ := hi
  have hlt : s.qCount < s.config.qcap := by omega
  simp only [State.contents, List.range_succ, List.map_append, List.map_cons, List.map_nil, State.entry]
  congr 1
  · apply List.map_congr_left
    intro i hi
    rw [List.getElem?_set_ne]
    rw [h4]
    exact ring_index_ne h2 (by simpa using hi) hlt
  · rw [h4]
    have := Nat.mod_lt (s.qHead + s.qCount) (by omega : s.config.qcap > 0)
    rw [List.getElem?_set_self (by omega)]; rfl

/-- Taking the oldest entry leaves the rest of what the queue held. -/
theorem State.contents_dequeue {s t : State} (hn : s.qCount ≠ 0) (hlt : s.qHead < s.config.qcap)
    (hc : t.config = s.config) (hq : t.q = s.q) (hh : t.qHead = (s.qHead + 1) % s.config.qcap)
    (hk : t.qCount = s.qCount - 1) : s.contents = s.entry s.qHead :: t.contents := by
  obtain ⟨k, hk'⟩ := Nat.exists_eq_succ_of_ne_zero hn
  simp only [State.contents, hk, hk', hh, hc, List.range_succ_eq_map, List.map_cons, List.map_map, Nat.succ_sub_one,
    Nat.add_zero, Nat.mod_eq_of_lt hlt]
  congr 1
  apply List.map_congr_left
  intro i _
  simp only [Function.comp, State.entry, hq, Nat.mod_add_mod, Nat.succ_eq_add_one]
  rw [Nat.add_assoc, Nat.add_comm 1 i]

/-- ENQUEUE keeps the invariant of the ring. -/
theorem State.enqueue_queueInv {s : State} (hi : s.QueueInv) (h : Handle) : (s.enqueue h).QueueInv := by
  by_cases hf : s.qCount = s.config.qcap
  · rw [State.enqueue_full hf]; exact hi
  · rw [State.enqueue_room hf]
    obtain ⟨h1, h2, h3, h4⟩ := hi
    refine ⟨by simpa using h1, h2, ?_, ?_⟩
    · show s.qCount + 1 ≤ s.config.qcap; omega
    · simp [h4, Nat.add_assoc]

/-- Taking the oldest entry keeps the invariant of the ring. -/
theorem State.dequeue_queueInv {s t : State} (hi : s.QueueInv) (hn : s.qCount ≠ 0) (hc : t.config = s.config)
    (hq : t.q = s.q) (hh : t.qHead = (s.qHead + 1) % s.config.qcap) (hk : t.qCount = s.qCount - 1)
    (ht : t.qTail = s.qTail) : t.QueueInv := by
  obtain ⟨h1, h2, h3, h4⟩ := hi
  refine ⟨by rw [hq, hc, h1], ?_, ?_, ?_⟩
  · rw [hh, hc]; exact Nat.mod_lt _ (by omega)
  · rw [hk, hc]; omega
  · rw [ht, hh, hk, hc, h4, Nat.mod_add_mod]
    congr 1; omega

end Sys2Proof.Machine
end

