-- ==== Sys2Proof/Laws/Run.lean ====
section
/-! SUPPORT. Runs, one step at a time, and inductions over them packaged once (70_reset_and_hazards.md R234). -/

namespace Sys2Proof.Machine

@[simp] theorem runSteps_zero (s : State) : runSteps 0 s = .next s := rfl

/-- A run whose first step answers a next state goes on from it. -/
theorem runSteps_succ_next {s t : State} (k : Nat) (h : step s = .next t) : runSteps (k + 1) s = runSteps k t := by
  have hc : core.step s = .next t := h
  show core.run (k + 1) s = core.run k t
  simp only [Host.Core.run, hc]

/-- A run that answers a next state after a first step took that step. -/
theorem runSteps_succ_inv {s t : State} {k : Nat} (h : runSteps (k + 1) s = .next t) :
    ∃ u, step s = .next u ∧ runSteps k u = .next t := by
  have h' : core.run (k + 1) s = .next t := h
  cases hs : core.step s with
  | next u => simp only [Host.Core.run, hs] at h'; exact ⟨u, hs, h'⟩
  | fault r => simp only [Host.Core.run, hs] at h'; cases h'
  | refused r => simp only [Host.Core.run, hs] at h'; cases h'

/-- The first step of a run whose next word decodes to an operation that completes. -/
theorem runSteps_cons {s t : State} {w : OpWord} {ws : List OpWord} {i : Instr} (k : Nat) (hs : s.schedule = w :: ws)
    (hd : decode w = .ok i) (he : exec i { s with schedule := ws } = .next t) : runSteps (k + 1) s = runSteps k t := by
  refine runSteps_succ_next k ?_
  rw [step_cons hs, hd]
  exact he

/-- Two parts of a run, one after the other. -/
theorem runSteps_add {s t : State} {j : Nat} (k : Nat) (h : runSteps j s = .next t) :
    runSteps (j + k) s = runSteps k t := by
  induction j generalizing s with
  | zero => cases h; rw [Nat.zero_add]
  | succ j ih =>
    obtain ⟨u, hu, hr⟩ := runSteps_succ_inv h
    rw [Nat.succ_add, runSteps_succ_next _ hu, ih hr]

/-- Everything a step that answers a next state can have done, in terms of the operation its word names: the operation was enabled
and had its effect, or the word was illegal and raised F_RSVD; and the word was taken. -/
theorem step_effect {s t : State} (h : step s = .next t) :
    s.config.WellFormed ∧ ∃ w ws, s.schedule = w :: ws ∧
      ((∃ i, s.nextOp = some i ∧ enabled i { s with schedule := ws } = true ∧ t = effectOf i { s with schedule := ws }) ∨
       (s.nextOp = none ∧ t = ({ s with schedule := ws } : State).raiseFault .rsvd)) := by
  obtain ⟨w, ws, hs, ⟨i, hd, he⟩ | ⟨e, hd, he⟩⟩ := step_eq_next h
  · obtain ⟨hw, hen, ht⟩ := exec_eq_next.1 he
    exact ⟨hw, w, ws, hs, .inl ⟨i, by simp [State.nextOp, hs, hd, Except.toOption], hen, ht⟩⟩
  · obtain ⟨hw, ht⟩ := performIllegal_eq_next.1 he
    exact ⟨hw, w, ws, hs, .inr ⟨by simp [State.nextOp, hs, hd, Except.toOption], ht⟩⟩

/-- A property that holds at the start and that every step satisfying the run's condition keeps holds at the end of the run. -/
theorem runSteps_induction {P : State → Bool} {Q : State → Prop}
    (hstep : ∀ s t, Q s → P s = true → step s = .next t → Q t) {k : Nat} {s t : State} (hs : Q s)
    (hP : runHolds P k s = true) (hr : runSteps k s = .next t) : Q t := by
  induction k generalizing s with
  | zero => cases hr; exact hs
  | succ k ih =>
    obtain ⟨u, hu, hru⟩ := runSteps_succ_inv hr
    simp only [runHolds, hu, Bool.and_eq_true] at hP
    exact ih (hstep s u hs hP.1 hu) hP.2 hru

end Sys2Proof.Machine
end

