-- ==== Sys2Proof/Tests/Slice0.lean ====
section
/-! SUPPORT. The model's own tests. The words and the effects are those of spec/95_test_vectors.md (the section and vector stand at
each test), or computed by hand from the rule named; a witness shows that a statement's hypotheses can be met. -/

namespace Sys2Proof.Tests

open Sys2Proof Sys2Proof.Machine

/-- The reset state under the configuration of 95_test_vectors.md section 0. -/
abbrev s0 : State := State.reset

/-- Whether an outcome is a next state with a property. -/
def after (o : Host.Outcome State Fault Refusal) (p : State → Bool) : Bool :=
  match o with
  | .next t => p t
  | .fault _ => false
  | .refused _ => false

/-- Whether an outcome is the given refusal. -/
def isRefused (o : Host.Outcome State Fault Refusal) (r : Refusal) : Bool :=
  match o with
  | .refused q => q == r
  | .fault _ => false
  | .next _ => false

/-- The digit fields and markers of the frame, bytes 0 to 7. -/
def frameText (s : State) : List (Option Byte) := (List.range 8).map s.frame

/-! ### Well-formed configurations (00_scope.md R9): each condition refuses a configuration one off its boundary -/

theorem test_reference_wellFormed : Config.reference.check = true := by decide
theorem test_qcap_zero_refused : { Config.reference with qcap := 0 }.check = false := by decide
theorem test_period_one_refused : { Config.reference with period := 1, cmp := 1 }.check = false := by decide
theorem test_period_above_counter_refused : { Config.reference with period := 17, cntW := 4 }.check = false := by decide
theorem test_cmp_zero_refused : { Config.reference with cmp := 0 }.check = false := by decide
theorem test_cmp_at_period_refused : { Config.reference with cmp := 10 }.check = false := by decide
theorem test_equal_registers_refused : { Config.reference with regY := 0x29 }.check = false := by decide
theorem test_eight_bit_device_address_refused : { Config.reference with devAddr := 0x80 }.check = false := by decide
theorem test_frame_past_the_top_refused : { Config.reference with frameBase := 0xFFFFFFF6 }.check = false := by decide
theorem test_short_transfer_refused : { Config.reference with txLen := 10 }.check = false := by decide
theorem test_boundary_configuration_accepted :
    { Config.reference with
      qcap := 1, period := 16, cntW := 4, cmp := 15, devAddr := 0x7F, frameBase := 0xFFFFFFF5 }.check = true := by decide

/-! ### Words (30_encoding.md R70-R74; 95_test_vectors.md sections 2 and 3) -/

/-- A word decodes to an operation, and the operation's word is that word. -/
def codes (w : OpWord) (i : Instr) : Bool := (decode w).toOption == some i && encode i == w

theorem test_word_reset : codes 0x0000000000000000 .reset = true := by decide
theorem test_word_timerStart : codes 0x0100000000000000 .timerStart = true := by decide
theorem test_word_timerTick : codes 0x0200000000000000 .timerTick = true := by decide
theorem test_word_updIsr : codes 0x0300000000000000 .updIsr = true := by decide
theorem test_word_cmpIsr : codes 0x0400000000000000 .cmpIsr = true := by decide
theorem test_word_busEvent : codes 0x05000D9900000000 (.busEvent 0b1101 0x99) = true := by decide
theorem test_word_engineByte : codes 0x0600000000000000 .engineByte = true := by decide
theorem test_word_tcIsr : codes 0x0700000000000000 .tcIsr = true := by decide
theorem test_word_beginRead : codes 0x0800002900000000 (.beginRead 0x29) = true := by decide
theorem test_word_format_x : codes 0x090000C800000000 (.format .x 200) = true := by decide
theorem test_word_format_y : codes 0x0900102A00000000 (.format .y 42) = true := by decide
theorem test_word_submit : codes 0x0A00000020000000 (.submit 0x20000000) = true := by decide
theorem test_word_enqueue : codes 0x0B0000000000000A (.enqueue 0xA) = true := by decide
theorem test_word_dequeue : codes 0x0C00000000000000 .dequeue = true := by decide
theorem test_word_engineStart : codes 0x0D00000030000000 (.engineStart 0x30000000) = true := by decide

/-- The same word, bit by bit from the field table of R70: OPC, RSV, AX, FLG, VAL, H. -/
theorem test_word_format_y_bits :
    decode (0b00001001#8 ++ 0b00000000000#11 ++ 0b1#1 ++ 0b0000#4 ++ 0b00101010#8 ++ 0#32) = .ok (.format .y 42) := by decide

/-- Section 2.9, the eight illegal words. -/
theorem test_illegal_words : ([0x0E00000000000000, 0xFF00000000000000, 0x0000200000000000, 0x0380000000000000,
    0x0500100000000000, 0x0800000000000001, 0x0A00002A20000000, 0x0C00000100000000] : List OpWord).all
      (fun w => (decode w).toOption.isNone) = true := by decide

theorem test_decodeTableWord : decodeTableWord 64 0x0B0000000000000A = some (.enqueue 0xA) := by decide
theorem test_decodeTableWord_refuses : decodeTableWord 64 0x0E00000000000000 = none := by decide

/-- The codes of R77, in order, and code 7 unused. -/
theorem test_tstate_codes : (List.range 8).map (fun n => TState.ofCode? (BitVec.ofNat 3 n)) =
    [some .idle, some .awaitSb1, some .awaitAddrW, some .awaitBtf, some .awaitSb2, some .awaitAddrR, some .awaitRxne, none] := by
  decide

/-- The assembler line of R85's example. -/
theorem test_line : (Instr.busEvent 0b0101 42).line = "BUS SB|BTF, #42" := by decide

/-- Nothing runs twice, nothing is left out: the word presented runs first (R70). -/
theorem test_withFetchWord : after (step (s0.withFetchWord 64 0x0100000000000000)) (·.timEn) = true := by decide

/-! ### One step of each operation -/

/-- Section 2.8, vector 1: FAULT and the queue's entries stay. -/
theorem test_reset :
    after (exec .reset { s0 with
      tstate := .awaitBtf, curReg := 0x29, latX := 0x11, latY := 0x22, timEn := true, cnt := 7, updPend := true
      cmpPend := true, q := [0x20000000, 0x20000000], qHead := 1, qCount := 1, engBusy := true, txPtr := 0x20000004
      txRem := 7, fault := 1, mem := [(0x20000002, 0x31), (0x20000003, 0x37)] })
      (· == { s0 with q := [0x20000000, 0x20000000], fault := 1 }) = true := by decide

/-- Section 2.3, vector 1. -/
theorem test_timerStart : after (exec .timerStart s0) (· == { s0 with timEn := true }) = true := by decide
/-- Section 2.3, vector 2, with P_TIMER_INIT_UPDATE = true added (R130). -/
theorem test_timerStart_initial_update :
    after (exec .timerStart { s0 with config := { Config.reference with timerInitUpdate := true }, cnt := 3 })
      (fun t => t.timEn && t.updPend && t.cnt == 3) = true := by decide

/-- Section 2.3, vector 4. -/
theorem test_timerTick_compare :
    after (exec .timerTick { s0 with timEn := true, cnt := 4 })
      (· == { s0 with timEn := true, cnt := 5, cmpPend := true }) = true := by decide
/-- Section 2.3, vector 8. -/
theorem test_timerTick_lost_update :
    after (exec .timerTick { s0 with timEn := true, cnt := 9, updPend := true })
      (· == { s0 with timEn := true, cnt := 0, updPend := true }) = true := by decide

/-- Section 2.4, vector 1. -/
theorem test_updIsr : after (exec .updIsr { s0 with updPend := true, latX := 0x7B })
    (fun t => t.tstate == .awaitSb1 && t.curReg == 0x29 && !t.updPend && t.busCmd == [0x0100] && t.fault == 0 &&
      frameText t == [some 0x58, some 0x31, some 0x32, some 0x33, some 0x59, some 0x30, some 0x30, some 0x30]) = true := by
  decide
/-- Section 2.4, vector 2. -/
theorem test_updIsr_faults :
    after (exec .updIsr { s0 with updPend := true, latX := 0x0A, tstate := .awaitSb2, curReg := 0x2B })
      (fun t => t.tstate == .awaitSb2 && t.curReg == 0x2B && !t.updPend && t.busCmd == [] && t.fault == 1 &&
        frameText t == [some 0x58, some 0x30, some 0x31, some 0x30, some 0x59, some 0x30, some 0x30, some 0x30]) = true := by
  decide

/-- Section 2.4, vector 4. -/
theorem test_cmpIsr_queues :
    after (exec .cmpIsr { s0 with cmpPend := true, latY := 0x14, engBusy := true, txPtr := 0x20000003, txRem := 8 })
      (· == { s0 with
        tstate := .awaitSb1, curReg := 0x2B, latY := 0x14, engBusy := true, txPtr := 0x20000003, txRem := 8
        q := [0x20000000, 0], qTail := 1, qCount := 1, busCmd := [0x0100], mem := [(0x20000006, 0x32)] }) = true := by
  decide
/-- Section 2.4, vector 7. -/
theorem test_cmpIsr_faults :
    after (exec .cmpIsr { s0 with cmpPend := true, tstate := .awaitAddrW, curReg := 0x29, latY := 0x03 })
      (· == { s0 with
        tstate := .awaitAddrW, curReg := 0x29, latY := 0x03, fault := 1, engBusy := true, txPtr := 0x20000000
        txRem := 11, mem := [(0x20000007, 0x33)] }) = true := by decide

/-- Section 2.2, vector 1. -/
theorem test_busEvent_row1 : after (exec (.busEvent 0b1101 0x99) { s0 with tstate := .awaitSb1, curReg := 0x29 })
    (· == { s0 with tstate := .awaitAddrW, curReg := 0x29, busCmd := [0x0338] }) = true := by decide
/-- Section 2.2, vector 13. -/
theorem test_busEvent_row6 : after (exec (.busEvent 0b1111 0x80) { s0 with tstate := .awaitRxne, curReg := 0x2B })
    (· == { s0 with curReg := 0x2B, latY := 0x80, busCmd := [0x0680, 0x0200] }) = true := by decide

/-- Section 2.7, vector 10. -/
theorem test_engineByte_last : after (exec .engineByte { s0 with engBusy := true, txPtr := 0x2000000A, txRem := 1 })
    (· == { s0 with engBusy := true, tcPend := true, txPtr := 0x2000000B, txOut := [0x00] }) = true := by decide
/-- Section 2.7, vector 11: the byte is the free draw, whatever it is. -/
theorem test_engineByte_wraps : exec .engineByte { s0 with engBusy := true, txPtr := 0xFFFFFFFF, txRem := 3 } =
    .next { s0 with
      engBusy := true, txPtr := 0x00000000, txRem := 2, txOut := [Config.freeByte 0], draws := 1 } := by rfl

/-- Section 2.7, vector 12. -/
theorem test_tcIsr_empty : after (exec .tcIsr { s0 with engBusy := true, tcPend := true }) (· == s0) = true := by decide
/-- Section 2.7, vector 14. -/
theorem test_tcIsr_next : after (exec .tcIsr { s0 with
      engBusy := true, tcPend := true, q := [0x20000000, 0x30000000], qHead := 1, qTail := 0, qCount := 1 })
    (· == { s0 with
      q := [0x20000000, 0x30000000], qHead := 0, engBusy := true, txPtr := 0x30000000, txRem := 11 }) = true := by decide

/-- Section 2.1, vector 1. -/
theorem test_beginRead : after (exec (.beginRead 0x29) s0)
    (· == { s0 with tstate := .awaitSb1, curReg := 0x29, busCmd := [0x0100] }) = true := by decide
/-- Section 2.1, vector 4. -/
theorem test_beginRead_faults : after (exec (.beginRead 0x2B) { s0 with tstate := .awaitBtf, curReg := 0x29 })
    (· == { s0 with tstate := .awaitBtf, curReg := 0x29, fault := 1 }) = true := by decide

/-- Section 1, W3: the Y field of "X123Y456" becomes 042. -/
theorem test_format : after (exec (.format .y 42) { s0 with mem := [(0x20000001, 0x31), (0x20000002, 0x32),
      (0x20000003, 0x33), (0x20000005, 0x34), (0x20000006, 0x35), (0x20000007, 0x36)] })
    (fun t => frameText t ==
      [some 0x58, some 0x31, some 0x32, some 0x33, some 0x59, some 0x30, some 0x34, some 0x32]) = true := by decide
/-- Section 2.5, 209 on the X axis; the byte that is its reset content is not listed. -/
theorem test_format_209 : after (exec (.format .x 209) s0)
    (fun t => t.mem == [(0x20000001, 0x32), (0x20000003, 0x39)]) = true := by decide

/-- Section 2.7, vector 1. -/
theorem test_submit : after (exec (.submit 0x20000000) s0)
    (· == { s0 with engBusy := true, txPtr := 0x20000000, txRem := 11 }) = true := by decide
/-- Section 2.7, vector 3. -/
theorem test_submit_unconsumed : after (exec (.submit 0x20000000) { s0 with engBusy := true, tcPend := true })
    (· == { s0 with
      engBusy := true, tcPend := true, q := [0x20000000, 0], qTail := 1, qCount := 1 }) = true := by decide

/-- Section 2.6, vector 6. -/
theorem test_enqueue_wraps : after (exec (.enqueue 0xD) { s0 with q := [0xC, 0xB], qTail := 1, qCount := 1 })
    (· == { s0 with q := [0xC, 0xD], qTail := 0, qCount := 2 }) = true := by decide
/-- Section 2.6, vector 3. -/
theorem test_enqueue_full : after (exec (.enqueue 0xC) { s0 with q := [0xA, 0xB], qCount := 2 })
    (· == { s0 with q := [0xA, 0xB], qCount := 2 }) = true := by decide

/-- Section 2.6, vector 5. -/
theorem test_dequeue_wraps : after (exec .dequeue { s0 with q := [0xC, 0xB], qHead := 1, qTail := 1, qCount := 2 })
    (· == { s0 with q := [0xC, 0xB], qHead := 0, qTail := 1, qCount := 1, returned := [0xB] }) = true := by decide
/-- Section 2.6, vector 7. -/
theorem test_dequeue_empty : after (exec .dequeue s0) (· == { s0 with fault := 2 }) = true := by decide

/-- Section 2.7, vector 5. -/
theorem test_engineStart : after (exec (.engineStart 0x20000000) s0)
    (· == { s0 with engBusy := true, txPtr := 0x20000000, txRem := 11 }) = true := by decide
/-- Section 2.7, vector 7. -/
theorem test_engineStart_faults : after (exec (.engineStart 0x20000000) { s0 with engBusy := true, tcPend := true })
    (· == { s0 with engBusy := true, tcPend := true, fault := 8 }) = true := by decide

/-- Section 2.9, vector 8: an illegal word is not performed. -/
theorem test_illegal_word : after (step { s0 with schedule := [0x0C00000100000000] }) (· == { s0 with fault := 4 }) = true := by
  decide
/-- R76: TC_ISR with TC_PEND = 0 is no step. -/
theorem test_disabled : isRefused (exec .tcIsr s0) .notEnabled = true := by decide
/-- R9: an ill-formed configuration has no step. -/
theorem test_illFormed : isRefused (exec .reset { s0 with config := { Config.reference with cmp := 0 } }) .illFormedConfig = true := by
  decide
theorem test_reset_memory_canonical : Memory.wf s0.config s0.mem := by decide

/-! ### Witnesses: for each statement with hypotheses, states and operands that meet them together, each clause at a boundary -/

/-- Whether an operation answers a next state at a state. -/
def completes (i : Instr) (s : State) : Bool := after (exec i s) (fun _ => true)

theorem exec_of_completes {i : Instr} {s : State} (h : completes i s = true) : ∃ t, exec i s = .next t := by
  unfold completes after at h
  split at h
  · exact ⟨_, ‹_›⟩
  · cases h
  · cases h

theorem step_of_after {s : State} {p : State → Bool} (h : after (step s) p = true) : ∃ t, step s = .next t ∧ p t = true := by
  unfold after at h
  split at h
  · exact ⟨_, ‹_›, h⟩
  · cases h
  · cases h

theorem exec_of_after {i : Instr} {s : State} {p : State → Bool} (h : after (exec i s) p = true) :
    ∃ t, exec i s = .next t ∧ p t = true := by
  unfold after at h
  split at h
  · exact ⟨_, ‹_›, h⟩
  · cases h
  · cases h

theorem run_of_after {k : Nat} {s : State} {p : State → Bool} (h : after (runSteps k s) p = true) :
    ∃ t, runSteps k s = .next t ∧ p t = true := by
  unfold after at h
  split at h
  · exact ⟨_, ‹_›, h⟩
  · cases h
  · cases h

/-- The shortest period and the earliest compare (R9), so that a run reaches a transfer in three steps. -/
abbrev fast : State := { s0 with config := { Config.reference with period := 2, cmp := 1 } }

/-- A queue that holds two handles, its indices wrapped. -/
abbrev fullQueue : State := { s0 with q := [0xC, 0xB], qHead := 1, qTail := 1, qCount := 2 }

/-- A transfer of the frame with one byte left to move. -/
abbrev lastByte : State := { s0 with engBusy := true, txPtr := 0x2000000A, txRem := 1, timEn := true }

/-- A clean launch whose fourth step sends a byte. -/
abbrev sending : State := { fast with schedule := scheduleOf [.timerStart, .timerTick, .cmpIsr, .engineByte] }

theorem witness_EncodeInvertsDecode : decode 0x0900102A00000000 = .ok (.format .y 42) := by decide

theorem witness_StepRunsTheDecodedOperation :
    ({ s0 with schedule := [0x0200000000000000, 0] } : State).schedule = 0x0200000000000000 :: [0] ∧
      decode 0x0200000000000000 = .ok .timerTick := by decide

/-- One word for each clause: the first and the last reserved code, the ends of RSV, and each field where it is not used. -/
theorem witness_IllegalWordOnlyRaisesRsvd : s0.config.WellFormed ∧
    ([0x0E00000000000000, 0xFF00000000000000, 0x0000200000000000, 0x0380000000000000, 0x0500100000000000,
      0x0400010000000000, 0x0C00000100000000, 0x0800000000000001, 0x0DFFF00080000000] : List OpWord).all (fun w =>
      let opc : Nat := (w.extractLsb' 56 8).toNat
      decide (0x0E ≤ opc ∨ w.extractLsb' 45 11 ≠ 0 ∨ (w.extractLsb' 44 1 ≠ 0 ∧ opc ≠ 0x09) ∨
        (w.extractLsb' 40 4 ≠ 0 ∧ opc ≠ 0x05) ∨ (w.extractLsb' 32 8 ≠ 0 ∧ opc ∉ [0x05, 0x08, 0x09]) ∨
        (w.extractLsb' 0 32 ≠ 0 ∧ opc ∉ [0x0A, 0x0B, 0x0D]))) = true := by decide

theorem witness_IllFormedConfigurationIsRefused :
    ¬ ({ s0 with config := { Config.reference with qcap := 0 }, schedule := [0] } : State).config.WellFormed ∧
      ({ s0 with schedule := [0] } : State).schedule ≠ [] := by decide

/-- Each condition of R76 met and not met. -/
theorem witness_OperationsStepExactlyWhenEnabled : s0.config.WellFormed ∧
    (fast.timEn = false ∧ lastByte.timEn = true) ∧
    (s0.updPend = false ∧ ({ s0 with updPend := true } : State).updPend = true) ∧
    (s0.cmpPend = false ∧ ({ s0 with cmpPend := true } : State).cmpPend = true) ∧
    (¬ 0 < s0.txRem ∧ 0 < lastByte.txRem) ∧
    (s0.tcPend = false ∧ ({ s0 with tcPend := true } : State).tcPend = true) ∧
    decode 0x0E00000000000000 = .error .reservedOpcode := by decide

theorem witness_NoWordLeftIsRefused : s0.schedule = [] := rfl

theorem witness_BeginReadEffect : s0.config.WellFormed ∧ s0.tstate = .idle ∧
    ({ s0 with tstate := .awaitRxne } : State).tstate ≠ .idle := by decide

/-- Every position, with and without its expected flag. -/
theorem witness_BusEventEffect : s0.config.WellFormed ∧
    ([.awaitSb1, .awaitAddrW, .awaitBtf, .awaitSb2, .awaitAddrR, .awaitRxne] : List TState).all (fun p =>
      rowTaken p 0b1111 && !rowTaken p 0b0000) = true := by decide

theorem witness_CanonicalTransactionLatchesTheReading : s0.config.WellFormed ∧ s0.tstate = .idle ∧
    ({ s0 with schedule := scheduleOf (.beginRead 0x29 :: Instr.xact 0x2A) } : State).schedule =
      scheduleOf (.beginRead 0x29 :: Instr.xact 0x2A) ++ [] := by decide

theorem witness_SixBusEventsReachIdle : s0.config.WellFormed ∧
    (∀ g, expect ({ s0 with tstate := .awaitBtf } : State).tstate = some g → g.setIn 0b1011 = false) ∧
    (expect .awaitSb1 = some .sb ∧ BusFlag.sb.setIn 0b1111 = true) ∧
    (expect .awaitRxne = some .rxne ∧ BusFlag.rxne.setIn 0b1000 = true) ∧
    (List.replicate 6 ((0b1111 : BitVec 4), (0 : Byte))).length = 6 := by
  refine ⟨by decide, ?_, by decide, by decide, rfl⟩
  intro g hg; cases hg; rfl

theorem witness_LatchesAreWrittenOnlyByRowSix :
    ∃ t, exec (.busEvent 0b1000 0x2A) { s0 with tstate := .awaitRxne, curReg := 0x29 } = .next t ∧
      (decide (t.latX ≠ 0)) = true := exec_of_after (by decide)

/-- The premises of the completions, and a transition of each kind. -/
theorem witness_TstateHasTwoWritersAndReset :
    (s0.config.WellFormed ∧ s0.tstate = .idle ∧ ({ s0 with updPend := true, cmpPend := true } : State).updPend = true) ∧
    (∃ t, exec .updIsr { s0 with updPend := true } = .next t ∧ (decide (t.tstate ≠ .idle)) = true) ∧
    (∃ t, exec (.busEvent 0 0) { s0 with tstate := .awaitRxne } = .next t ∧ decide (t.tstate ≠ .awaitRxne) = true) ∧
    ∃ t, exec .reset { s0 with tstate := .awaitBtf } = .next t ∧ decide (t.tstate ≠ .awaitBtf) = true :=
  ⟨by decide, exec_of_after (by decide), exec_of_after (by decide), exec_of_after (by decide)⟩

theorem witness_TimerStartEffect : s0.config.WellFormed ∧ s0.config.timerInitUpdate = false ∧
    { Config.reference with timerInitUpdate := true }.WellFormed := by decide

/-- The tick that rolls over, the tick at the compare value, and another. -/
theorem witness_TimerTickEffect : ([9, 4, 0] : List Nat).all (fun n =>
    decide (({ s0 with timEn := true, cnt := n } : State).TimerInv)) = true ∧ s0.config.WellFormed ∧ lastByte.timEn = true := by
  decide

theorem witness_TimerEventSchedule : fast.config.WellFormed ∧ fast.config.timerInitUpdate = false ∧ fast.cnt = 0 ∧
    ({ fast with schedule := scheduleOf (.timerStart :: Instr.ticks 1) } : State).schedule =
      scheduleOf (.timerStart :: Instr.ticks 1) ++ [] := by decide

theorem witness_UpdateHandlerEffect : s0.config.WellFormed ∧
    ({ s0 with updPend := true, latX := 255 } : State).updPend = true ∧
    ({ s0 with updPend := true, tstate := .awaitSb1 } : State).tstate ≠ .idle := by decide

/-- The engine free, the engine busy with room in the queue, and the engine busy with the queue full. -/
theorem witness_CompareHandlerEffect : s0.config.WellFormed ∧
    (({ s0 with cmpPend := true } : State).EngineInv ∧ s0.engBusy = false ∧ s0.tcPend = false) ∧
    (({ lastByte with cmpPend := true } : State).EngineInv ∧ lastByte.engBusy = true ∧ lastByte.qCount ≠ lastByte.config.qcap) ∧
    ({ fullQueue with cmpPend := true, engBusy := true, tcPend := true } : State).EngineInv ∧
    fullQueue.qCount = fullQueue.config.qcap := by decide

theorem witness_FirstCompareSubmitsTheResetFrame :
    let s : State := { fast with schedule := scheduleOf (.timerStart :: Instr.ticks 1 ++ [.cmpIsr]) }
    s.LaunchClean ∧ s.config.timerInitUpdate = false ∧
      s.schedule = scheduleOf (.timerStart :: Instr.ticks s.config.cmp ++ [.cmpIsr]) ++ [] := by decide

/-- An interleaving in which the engine works between the handlers and the timer runs ahead of the bus. -/
abbrev cycleAfterX : List Instr :=
  [.timerTick, .busEvent 1 0, .busEvent 2 0xFF, .busEvent 4 0, .engineByte, .busEvent 1 0, .busEvent 2 0, .busEvent 8 10]

abbrev cycleOps : List Instr :=
  [.updIsr] ++ cycleAfterX ++ [.cmpIsr] ++ (.timerTick :: Instr.xact 20) ++ [.updIsr] ++ [.timerTick] ++ [.cmpIsr]

theorem witness_ReadingsAppearOneCycleLater_interleaved :
    let s : State := { fast with
      timEn := true, updPend := true, engBusy := true, txPtr := 0x20000000, txRem := 11, schedule := scheduleOf cycleOps }
    s.tstate = .idle ∧ betweenHandlers cycleAfterX ∧ betweenHandlers (.timerTick :: Instr.xact 20) ∧
      betweenHandlers [.timerTick] ∧ wholeTransaction 10 (busEventsIn cycleAfterX) ∧
      wholeTransaction 20 (busEventsIn (.timerTick :: Instr.xact 20)) ∧ s.schedule = scheduleOf cycleOps ++ [] ∧
      ∃ t, runSteps cycleOps.length s = .next t ∧ (t.frame 7 == some 0x30) = true :=
  ⟨by decide, by decide, by decide, by decide, by decide, by decide, by decide, run_of_after (by decide)⟩

theorem witness_ReadingsAppearOneCycleLater :
    let s : State := { fast with
      timEn := true, updPend := true
      schedule := scheduleOf ([.updIsr] ++ Instr.xact 10 ++ Instr.ticks 1 ++ [.cmpIsr] ++ Instr.xact 20 ++
        Instr.ticks 1 ++ [.updIsr] ++ Instr.xact 200 ++ Instr.ticks 1 ++ [.cmpIsr]) }
    s.config.WellFormed ∧ s.timEn = true ∧ s.cnt = 0 ∧ s.updPend = true ∧ s.cmpPend = false ∧ s.tstate = .idle ∧
      s.schedule = scheduleOf ([.updIsr] ++ Instr.xact 10 ++ Instr.ticks s.config.cmp ++ [.cmpIsr] ++ Instr.xact 20 ++
        Instr.ticks (s.config.period - s.config.cmp) ++ [.updIsr] ++ Instr.xact 200 ++ Instr.ticks s.config.cmp ++
        [.cmpIsr]) ++ [] := by decide

theorem witness_CommandTraceIsCanonicalTransactions : sending.LaunchClean ∧
    runHolds (fun u => systemStep u && noResetStep u && wellBehavedBusStep u && transactionsCompleteStep u) 4 sending = true ∧
    ∃ t, runSteps 4 sending = .next t ∧ (t.busCmd == [0x0100]) = true := ⟨by decide, by decide, run_of_after (by decide)⟩

/-- A clean launch whose first step is a bus event. -/
abbrev earlyEvent : State := { s0 with schedule := scheduleOf [.busEvent 0b1111 0xFF] }

theorem witness_NothingIsInFlightBeforeTimerStart : earlyEvent.LaunchClean ∧ runHolds systemStep 1 earlyEvent = true ∧
    ∃ t, runSteps 1 earlyEvent = .next t ∧ (!t.timEn) = true := ⟨by decide, by decide, run_of_after (by decide)⟩

/-- Also the statements whose one hypothesis is a well-formed configuration: RESET, FORMAT, ENGINE_START, the launch. -/
theorem witness_FormatEffect : s0.config.WellFormed := by decide
theorem witness_ResetEffect : s0.config.WellFormed := by decide
theorem witness_LaunchSatisfiesTheInvariants : Config.reference.WellFormed := by decide

theorem witness_CanonicalMemoriesThatReadAlikeAreEqual :
    Memory.wf Config.reference [(0x20000001, 0x32), (0x20000003, 0x39)] ∧
      ∀ a, Memory.read Config.reference [(0x20000001, 0x32), (0x20000003, 0x39)] a =
        Memory.read Config.reference [(0x20000001, 0x32), (0x20000003, 0x39)] a := ⟨by decide, fun _ => rfl⟩

/-- A next state of an operation of each case of the statement. -/
theorem witness_BytesChangeOnlyWhereTheRuleStores :
    (∃ t, exec .reset s0 = .next t) ∧ (∃ t, exec (.format .x 255) s0 = .next t) ∧
    (∃ t, exec .updIsr { s0 with updPend := true } = .next t) ∧
    (∃ t, exec .cmpIsr { s0 with cmpPend := true } = .next t) ∧ (∃ t, exec .engineByte lastByte = .next t) :=
  ⟨exec_of_completes (by decide), exec_of_completes (by decide), exec_of_completes (by decide),
    exec_of_completes (by decide), exec_of_completes (by decide)⟩

theorem witness_EnqueueEffect : s0.config.WellFormed ∧ s0.qCount ≠ s0.config.qcap ∧
    fullQueue.qCount = fullQueue.config.qcap := by decide

theorem witness_DequeueEffect : s0.config.WellFormed ∧ s0.qCount = 0 ∧
    fullQueue.qHead < fullQueue.q.length ∧ 0 < fullQueue.qCount := by decide

theorem witness_QueueIsFirstInFirstOut :
    let s : State := { s0 with schedule := scheduleOf [.enqueue 0xA, .dequeue] }
    s.config.WellFormed ∧ s.QueueInv ∧ s.qCount = 0 ∧ s.fault = 0 ∧
      s.schedule = scheduleOf [.enqueue 0xA, .dequeue] ++ [] ∧
      (∃ t, runSteps 2 s = .next t ∧ (t.fault == 0) = true) ∧
      ({ s0 with schedule := scheduleOf (([0xA, 0xB] : List Handle).map .enqueue ++ List.replicate 2 .dequeue) } : State).schedule =
        scheduleOf (([0xA, 0xB] : List Handle).map .enqueue ++ List.replicate 2 .dequeue) ++ [] :=
  ⟨by decide, by decide, by decide, by decide, by decide, run_of_after (by decide), by decide⟩

theorem witness_QueueChangesOnlyAtItsEnds : fullQueue.QueueInv ∧ ∃ t, exec .dequeue fullQueue = .next t :=
  ⟨by decide, exec_of_completes (by decide)⟩

theorem witness_SubmitEffect : s0.config.WellFormed ∧ s0.EngineInv ∧ lastByte.EngineInv ∧
    ({ fullQueue with engBusy := true, tcPend := true } : State).EngineInv := by decide

theorem witness_EngineStartEffect : s0.config.WellFormed ∧ ¬ (s0.txRem ≠ 0 ∨ s0.tcPend = true) ∧ lastByte.txRem ≠ 0 := by decide

/-- The last byte of the frame, and a byte outside it. -/
theorem witness_EngineByteEffect : lastByte.config.WellFormed ∧ 0 < lastByte.txRem ∧
    lastByte.readByte lastByte.txPtr.toNat = some 0x00 ∧
    ({ lastByte with txPtr := 0x2000000B } : State).readByte 0x2000000B = none := by decide

/-- An unconsumed completion, the queue empty. -/
abbrev completed : State := { s0 with engBusy := true, tcPend := true }

theorem witness_TransferCompleteHandlerEffect :
    (completed.config.WellFormed ∧ completed.tcPend = true ∧ completed.qCount = 0) ∧
    let s : State := { fullQueue with engBusy := true, tcPend := true }
    s.qHead < s.q.length ∧ s.config.WellFormed ∧ s.EngineInv ∧ s.tcPend = true ∧ 0 < s.qCount := by decide

theorem witness_ElevenByteStepsSendTheFrame :
    let s : State := { s0 with
      engBusy := true, txPtr := 0x20000000, txRem := 11, schedule := scheduleOf (Instr.ebytes 11) }
    s.config.WellFormed ∧ s.txRem = s.config.txLen ∧ s.txPtr = s.config.frameBase ∧
      s.schedule = scheduleOf (Instr.ebytes 11) ++ [] := by decide

/-- A byte of a transfer from the last address, another operation during a transfer, and a transfer that starts. -/
theorem witness_TransfersAreWhole :
    (∃ t, exec .engineByte { lastByte with txOut := List.replicate 10 0x30 } = .next t) ∧
    (({ lastByte with txOut := List.replicate 10 0x30 } : State).txOut.length + lastByte.txRem) % 11 = 0 ∧
    (lastByte.txPtr = 0x20000000 + BitVec.ofNat 32 (11 - lastByte.txRem) ∧ 0 < lastByte.txRem ∧ lastByte.txRem ≤ 11) ∧
    (∃ t, exec .engineByte { lastByte with txRem := 11, txPtr := 0xFFFFFFFF } = .next t) ∧
    (0xFFFFFFFF : Handle) = 0xFFFFFFFF + BitVec.ofNat 32 (11 - 11) ∧
    (∃ t, exec (.submit 0xA) lastByte = .next t) ∧
    ∃ t, exec (.submit 0xA) s0 = .next t ∧ decide (s0.txRem = 0 ∧ t.txRem = 11) = true :=
  ⟨exec_of_completes (by decide), by decide, by decide, exec_of_completes (by decide), by decide,
    exec_of_completes (by decide), exec_of_after (by decide)⟩

theorem witness_EveryTransmittedByteFitsTheFrame : sending.LaunchClean ∧
    runHolds (fun u => systemStep u && noResetStep u) 4 sending = true ∧
    ∃ t, runSteps 4 sending = .next t ∧ (t.txOut[0]? == some 0x58) = true :=
  ⟨by decide, by decide, run_of_after (by decide)⟩

theorem witness_QueuedHandlesAliasTheOneFrame : sending.LaunchClean ∧ runHolds systemStep 4 sending = true ∧
    ∃ t, runSteps 4 sending = .next t ∧ decide (0 < t.txRem) = true :=
  ⟨by decide, by decide, run_of_after (by decide)⟩

/-- The operations of an endless run: the last byte of a transfer, and then a running timer started again and again. -/
def endlessOps : Nat → Option Instr
  | 0 => some .engineByte
  | _ + 1 => some .timerStart

/-- Its states. -/
def endlessStates : Nat → State
  | 0 => lastByte
  | _ + 1 => { lastByte with txPtr := 0x2000000B, txRem := 0, tcPend := true, txOut := [0x00] }

theorem witness_FairEngineCompletesEveryTransfer : EndlessRun endlessOps endlessStates ∧ (endlessStates 0).Inv ∧
    (∀ n, endlessOps n ≠ some .reset) ∧ WeaklyFair .engineByte endlessOps endlessStates ∧ 0 < (endlessStates 0).txRem := by
  refine ⟨?_, by decide, ?_, ?_, by decide⟩
  · rintro (_ | n)
    · rfl
    · rfl
  · rintro (_ | n) <;> exact fun h => nomatch h
  · intro k hk
    exact absurd (hk (k + 1) (Nat.le_succ k)) (by show ¬ (false = true); decide)

theorem witness_FaultBitsAreSticky :
    ∃ t, step { s0 with fault := 1, schedule := scheduleOf [.dequeue] } = .next t ∧ (t.fault == 3) = true :=
  step_of_after (by decide)

/-- One witness for each of the three causes. -/
theorem witness_FaultsHaveOnlyTheirCauses : s0.EngineInv ∧ lastByte.EngineInv ∧
    (∃ t, exec (.beginRead 0) { s0 with tstate := .awaitSb1 } = .next t ∧ decide (t.fault ≠ 0) = true) ∧
    (∃ t, exec .dequeue s0 = .next t ∧ decide (t.fault ≠ 0) = true) ∧
    ∃ t, exec (.engineStart 0) lastByte = .next t ∧ decide (t.fault ≠ 0) = true :=
  ⟨by decide, by decide, exec_of_after (by decide), exec_of_after (by decide), exec_of_after (by decide)⟩

theorem witness_NoFaultWhenTransactionsComplete : sending.LaunchClean ∧
    runHolds (fun u => systemStep u && transactionsCompleteStep u) 4 sending = true ∧
    ∃ t, runSteps 4 sending = .next t ∧ (t.engBusy) = true :=
  ⟨by decide, by decide, run_of_after (by decide)⟩

theorem witness_EveryStepKeepsTheInvariants :
    ({ lastByte with schedule := scheduleOf [.engineByte] } : State).Inv ∧
      ∃ t, step { lastByte with schedule := scheduleOf [.engineByte] } = .next t ∧ t.tcPend = true :=
  ⟨by decide, step_of_after (by decide)⟩

theorem witness_NoStepWritesTheConfiguration :
    ∃ t, step { s0 with schedule := scheduleOf [.timerStart] } = .next t ∧ t.timEn = true := step_of_after (by decide)

theorem witness_TracesOnlyGrow :
    ∃ t, step { s0 with schedule := scheduleOf [.beginRead 0x29] } = .next t ∧ (t.busCmd == [0x0100]) = true :=
  step_of_after (by decide)

theorem witness_BusRegistersHaveOnlyTheirWriters :
    ∃ t, exec (.busEvent 0b1000 0x2A) { s0 with tstate := .awaitRxne, curReg := 0x29 } = .next t ∧
      decide (t.tstate ≠ .awaitRxne ∧ t.latX ≠ 0 ∧ t.busCmd ≠ []) = true := exec_of_after (by decide)

theorem witness_TimerRegistersHaveOnlyTheirWriters :
    ∃ t, exec .timerTick { s0 with timEn := true, cnt := 4 } = .next t ∧ decide (t.cnt ≠ 4 ∧ t.cmpPend ≠ false) = true :=
  exec_of_after (by decide)

theorem witness_QueueAndEngineRegistersHaveOnlyTheirWriters :
    ∃ t, exec .tcIsr { fullQueue with engBusy := true, tcPend := true } = .next t ∧
      decide (t.qHead ≠ 1 ∧ t.qCount ≠ 2 ∧ t.tcPend ≠ true ∧ t.txPtr ≠ 0 ∧ t.txRem ≠ 0) = true := exec_of_after (by decide)

/-- A transaction in flight, waiting for its first event, which comes. -/
abbrev reading : State := { s0 with
  tstate := .awaitSb1, curReg := 0x29, busCmd := [0x0100], schedule := scheduleOf [.busEvent 1 0] }

theorem witness_EveryStepKeepsTheCommandTraceCanonical : sending.LaunchClean ∧ reading.CanonicalTrace ∧
    systemStep reading = true ∧ noResetStep reading = true ∧ wellBehavedBusStep reading = true ∧
    transactionsCompleteStep reading = true ∧ ∃ t, step reading = .next t ∧ (t.busCmd == [0x0100, 0x0338]) = true :=
  ⟨by decide, ⟨fun _ => .inl rfl, [], by simp, by decide⟩, by decide, by decide, by decide, by decide,
    step_of_after (by decide)⟩

/-- A transfer of the frame that has all its bytes to move. -/
abbrev starting : State := { s0 with
  engBusy := true, txPtr := 0x20000000, txRem := 11, schedule := scheduleOf [.engineByte] }

theorem starting_outputFramed : starting.OutputFramed := by
  refine ⟨by decide, ?_, fun _ => rfl, rfl, ?_⟩
  · intro h hm
    cases hm
  · intro n b h
    cases h

theorem witness_EverySystemStepKeepsTheOutputFramed : sending.LaunchClean ∧ starting.OutputFramed ∧
    systemStep starting = true ∧ noResetStep starting = true ∧ ∃ t, step starting = .next t ∧ (t.txOut == [0x58]) = true :=
  ⟨by decide, starting_outputFramed, by decide, by decide,
    step_of_after (by decide)⟩

theorem witness_EverySystemStepKeepsTheStateGood : sending.LaunchClean ∧
    let s : State := { s0 with cmpPend := true, schedule := scheduleOf [.cmpIsr] }
    s.Inv ∧ s.Good ∧ systemStep s = true ∧ transactionsCompleteStep s = true ∧ ∃ t, step s = .next t ∧ t.engBusy = true :=
  ⟨by decide, by decide, by decide, by decide, by decide, step_of_after (by decide)⟩

/-- A transfer whose second byte moves after another operation. -/
abbrev interrupted : State := { starting with schedule := scheduleOf [.engineByte, .submit 0xA, .engineByte] }

/-- A transfer that reaches its eleventh byte. -/
abbrev sendingAll : State := { starting with schedule := scheduleOf (Instr.ebytes 11) }

theorem witness_EveryTransferMovesItsElevenBytes_last : sendingAll.txRem = 11 ∧ runHolds noResetStep 11 sendingAll = true ∧
    ∃ t, runSteps 11 sendingAll = .next t ∧ (t.txOut[sendingAll.txOut.length + 10]? == some 0x00) = true :=
  ⟨by decide, by decide, run_of_after (by decide)⟩

/-- The second byte of a transfer, with another operation between it and the first. -/
theorem witness_EveryTransferMovesItsElevenBytes : interrupted.txRem = 11 ∧ runHolds noResetStep 3 interrupted = true ∧
    ∃ t, runSteps 3 interrupted = .next t ∧ (t.txOut[interrupted.txOut.length + 1]? == some 0x30) = true :=
  ⟨by decide, by decide, run_of_after (by decide)⟩

end Sys2Proof.Tests
end

/-! The proofs of 00_scope.md: an ill-formed configuration is refused, and nothing is done under it (R9). -/

namespace Sys2Proof.Machine

/-- Under an ill-formed configuration an illegal word is refused. -/
theorem performIllegal_illFormed {s : State} (h : ¬ s.config.WellFormed) :
    performIllegal s = .refused .illFormedConfig := by
  simp [performIllegal, h]

/-- Under an ill-formed configuration the step on any next word is refused, whatever the word decodes to. -/
theorem step_illFormed {s : State} {w : OpWord} {ws : List OpWord} (hs : s.schedule = w :: ws)
    (h : ¬ s.config.WellFormed) : step s = .refused .illFormedConfig := by
  rw [step_cons hs]
  cases decode w with
  | ok i => exact exec_illFormed i h
  | error _ => exact performIllegal_illFormed h

/-- Settles O8: the conditions are those of `Config.check`, and each of `exec` and `step` asks it first. -/
theorem illFormedConfigurationIsRefused : Obligations.IllFormedConfigurationIsRefused := by
  refine ⟨Config.wellFormed_iff, fun s h => ⟨fun i => exec_illFormed i h, fun hne => ?_⟩⟩
  obtain ⟨w, ws, hs⟩ := List.exists_cons_of_ne_nil hne
  exact step_illFormed hs h

end Sys2Proof.Machine

/-! The proofs of 10_state.md: what each operation does to the registers, the traces, FAULT, the queue and memory, said once per
shared operation; then the invariants of R40, and which operation writes which register (R21-R37). -/

namespace Sys2Proof.Machine

/-! ### What the shared operations write -/

/-- BEGIN_READ moves TSTATE from IDLE alone, to AWAIT_SB1 (R23). -/
theorem State.beginRead_tstate (s : State) (r : Byte) :
    (s.beginRead r).tstate = if s.tstate = .idle then .awaitSb1 else s.tstate := by
  by_cases h : s.tstate = .idle
  · simp [State.beginRead_idle h, h]
  · simp [State.beginRead_busy h, h]

/-- BEGIN_READ appends to BUSCMD, if it writes it. -/
theorem State.beginRead_busCmd_append (s : State) (r : Byte) : ∃ cmds, (s.beginRead r).busCmd = s.busCmd ++ cmds := by
  by_cases h : s.tstate = .idle
  · exact ⟨_, by rw [State.beginRead_idle h]⟩
  · exact ⟨[], by simp [State.beginRead_busy h]⟩

/-- BEGIN_READ only sets bits of FAULT. -/
theorem State.beginRead_fault_or (s : State) (r : Byte) : ∃ m, (s.beginRead r).fault = s.fault ||| m := by
  by_cases h : s.tstate = .idle
  · exact ⟨0, by simp [State.beginRead_idle h]⟩
  · exact ⟨_, by rw [State.beginRead_busy h]⟩

/-- ENGINE_START only sets bits of FAULT. -/
theorem State.engineStart_fault_or (s : State) (h : Handle) : ∃ m, (s.engineStart h).fault = s.fault ||| m := by
  by_cases hb : s.txRem ≠ 0 ∨ s.tcPend = true
  · exact ⟨_, by rw [State.engineStart_busy hb]⟩
  · simp only [not_or, not_not, Bool.not_eq_true] at hb
    exact ⟨0, by simp [State.engineStart_idle hb.1 hb.2]⟩

/-- SUBMIT runs ENGINE_START or ENQUEUE (43_queue_dispatch.md R163). -/
theorem State.submit_cases (s : State) (h : Handle) : s.submit h = s.engineStart h ∨ s.submit h = s.enqueue h := by
  by_cases hb : s.engBusy = false ∧ s.tcPend = false
  · exact .inl (State.submit_idle hb.1 hb.2 h)
  · exact .inr (State.submit_busy (by simpa [or_iff_not_imp_left] using hb) h)

/-- SUBMIT only sets bits of FAULT. -/
theorem State.submit_fault_or (s : State) (h : Handle) : ∃ m, (s.submit h).fault = s.fault ||| m := by
  rcases State.submit_cases s h with hs | hs <;> rw [hs]
  · exact State.engineStart_fault_or s h
  · exact ⟨0, by simp⟩

/-- DEQUEUE only sets bits of FAULT. -/
theorem State.dequeueLabelled_fault_or (s : State) : ∃ m, s.dequeueLabelled.fault = s.fault ||| m := by
  by_cases h : s.qCount = 0
  · exact ⟨_, by rw [State.dequeueLabelled_empty h]⟩
  · exact ⟨0, by simp [State.dequeueLabelled_held h]⟩

/-- TC_ISR only sets bits of FAULT. -/
theorem State.transferComplete_fault_or (s : State) : ∃ m, s.transferComplete.fault = s.fault ||| m := by
  by_cases h : s.qCount = 0
  · exact ⟨0, by simp [State.transferComplete_empty h]⟩
  · rw [State.transferComplete_held h]
    exact State.engineStart_fault_or _ _

/-- ENGINE_BYTE appends one byte to TXOUT (43_queue_dispatch.md R165). -/
theorem State.engineByte_txOut_append (s : State) : ∃ b, s.engineByte.txOut = s.txOut ++ [b] := by
  cases h : s.readByte s.txPtr.toNat with
  | none => exact ⟨_, by rw [State.engineByte_outside h]⟩
  | some b => exact ⟨_, by rw [State.engineByte_inside h]⟩

@[simp] theorem State.engineByte_txRem (s : State) : s.engineByte.txRem = s.txRem - 1 := by
  cases h : s.readByte s.txPtr.toNat with
  | none => rw [State.engineByte_outside h]
  | some b => rw [State.engineByte_inside h]

/-- ENGINE_BYTE raises the completion with the last byte (43_queue_dispatch.md R165). -/
@[simp] theorem State.engineByte_tcPend (s : State) :
    s.engineByte.tcPend = (s.tcPend || decide (s.txRem - 1 = 0)) := by
  cases h : s.readByte s.txPtr.toNat with
  | none => rw [State.engineByte_outside h]
  | some b => rw [State.engineByte_inside h]

/-! ### The bus event, register by register -/

/-- BUS_EVENT in IDLE stays there: the position has no row (40_bus_fsm.md R101). -/
theorem State.busEvent_tstate_of_idle {s : State} (h : s.tstate = .idle) (f : BitVec 4) (d : Byte) :
    (s.busEvent f d).tstate = .idle := by
  simp [State.busEvent_eq, rowTaken, expect, h, State.fallback]

/-- The latch of the register that was read takes the byte, and the other latch stays (40_bus_fsm.md R107). -/
theorem State.latch_eq (s : State) (d : Byte) :
    s.latch d = { s with
      latX := if s.curReg = s.config.regX then d else s.latX
      latY := if s.curReg ≠ s.config.regX ∧ s.curReg = s.config.regY then d else s.latY } := by
  unfold State.latch
  by_cases hx : s.curReg = s.config.regX
  · simp [hx]
  · by_cases hy : s.curReg = s.config.regY
    · simp only [hx, if_false, hy.symm, not_false_eq_true, ne_eq, and_self, if_true]
    · simp [hx, hy]

/-- Row 6: the byte is latched, two commands are emitted, and the position is IDLE (40_bus_fsm.md R107). -/
theorem State.row6_eq (s : State) (d : Byte) :
    s.row6 d = { s with
      busCmd := s.busCmd ++ [(BusCmd.readDr d).code, BusCmd.stop.code], tstate := .idle
      latX := if s.curReg = s.config.regX then d else s.latX
      latY := if s.curReg ≠ s.config.regX ∧ s.curReg = s.config.regY then d else s.latY } := by
  simp [State.row6, State.latch_eq, State.emitCmd]

/-- BUS_EVENT in AWAIT_RXNE with RXNE asserted performs row 6 (40_bus_fsm.md R101, R107). -/
theorem State.busEvent_row6 {s : State} {f : BitVec 4} (h : s.tstate = .awaitRxne) (hf : f.getLsbD 3 = true) (d : Byte) :
    s.busEvent f d = s.row6 d := by
  have hr : rowTaken s.tstate f = true := by simpa [rowTaken, expect, h, BusFlag.setIn, BusFlag.index] using hf
  rw [State.busEvent_eq, if_pos hr, State.performRow, h]

/-- BUS_EVENT leaves the latches unless it performs row 6 (R25). -/
theorem State.busEvent_latches {s : State} {f : BitVec 4} (h : ¬ (s.tstate = .awaitRxne ∧ f.getLsbD 3 = true)) (d : Byte) :
    (s.busEvent f d).latX = s.latX ∧ (s.busEvent f d).latY = s.latY := by
  rw [State.busEvent_eq]
  split
  · next hr =>
    unfold State.performRow
    split
    case h_7 hst =>
      have hf : f.getLsbD 3 = true := by simpa [rowTaken, expect, hst, BusFlag.setIn, BusFlag.index] using hr
      exact absurd ⟨hst, hf⟩ h
    all_goals exact ⟨rfl, rfl⟩
  · exact ⟨rfl, rfl⟩

/-- BUS_EVENT appends to BUSCMD, whichever row or the fallback it performs. -/
theorem State.busEvent_busCmd_append (s : State) (f : BitVec 4) (d : Byte) :
    ∃ cmds, (s.busEvent f d).busCmd = s.busCmd ++ cmds := by
  rw [State.busEvent_eq]
  split
  · unfold State.performRow
    split
    case h_1 => exact ⟨_, rfl⟩
    case h_2 => exact ⟨_, rfl⟩
    case h_3 => exact ⟨_, List.append_assoc ..⟩
    case h_4 => exact ⟨_, rfl⟩
    case h_5 => exact ⟨_, List.append_assoc ..⟩
    case h_6 => exact ⟨_, rfl⟩
    case h_7 => exact ⟨_, by rw [State.row6_eq]⟩
  · exact ⟨_, rfl⟩

/-! ### The timer handlers, register by register -/

/-- UPD_ISR moves TSTATE as its BEGIN_READ does (R23). -/
theorem State.updateHandler_tstate (s : State) :
    s.updateHandler.tstate = if s.tstate = .idle then .awaitSb1 else s.tstate := by
  rw [State.updateHandler_eq]
  exact State.beginRead_tstate _ _

/-- CMP_ISR moves TSTATE as its BEGIN_READ does (R23). -/
theorem State.compareHandler_tstate (s : State) :
    s.compareHandler.tstate = if s.tstate = .idle then .awaitSb1 else s.tstate := by
  rw [State.compareHandler_eq, State.submit_tstate]
  exact State.beginRead_tstate _ _

theorem State.updateHandler_busCmd_append (s : State) : ∃ cmds, s.updateHandler.busCmd = s.busCmd ++ cmds := by
  rw [State.updateHandler_eq]
  exact State.beginRead_busCmd_append _ _

theorem State.compareHandler_busCmd_append (s : State) : ∃ cmds, s.compareHandler.busCmd = s.busCmd ++ cmds := by
  rw [State.compareHandler_eq, State.submit_busCmd]
  exact State.beginRead_busCmd_append _ _

/-- UPD_ISR only sets bits of FAULT. -/
theorem State.updateHandler_fault_or (s : State) : ∃ m, s.updateHandler.fault = s.fault ||| m := by
  rw [State.updateHandler_eq]
  exact State.beginRead_fault_or _ _

/-- CMP_ISR only sets bits of FAULT, in its BEGIN_READ and in its SUBMIT. -/
theorem State.compareHandler_fault_or (s : State) : ∃ m, s.compareHandler.fault = s.fault ||| m := by
  rw [State.compareHandler_eq]
  obtain ⟨m, hm⟩ := State.beginRead_fault_or ({ s with cmpPend := false } : State) s.config.regY
  obtain ⟨n, hn⟩ := State.submit_fault_or ({ ({ s with cmpPend := false } : State).beginRead s.config.regY with
    mem := (s.format .y s.latY).mem } : State) s.config.frameBase
  exact ⟨m ||| n, by rw [hn, ← BitVec.or_assoc]; exact congrArg (· ||| n) hm⟩

@[simp] theorem State.updateHandler_mem (s : State) : s.updateHandler.mem = (s.format .x s.latX).mem := by
  rw [State.updateHandler_eq]

@[simp] theorem State.compareHandler_mem (s : State) : s.compareHandler.mem = (s.format .y s.latY).mem := by
  rw [State.compareHandler_eq, State.submit_mem]

/-! ### What every operation does to the configuration, the traces, FAULT and memory -/

/-- No operation writes a parameter (R37). -/
@[simp] theorem effectOf_config (i : Instr) (s : State) : (effectOf i s).config = s.config := by
  cases i <;> simp [effectOf]

/-- No operation presents or takes a word. -/
@[simp] theorem effectOf_schedule (i : Instr) (s : State) : (effectOf i s).schedule = s.schedule := by
  cases i <;> simp [effectOf]

/-- Every operation leaves BUSCMD or appends to it (R35). -/
theorem effectOf_busCmd_append (i : Instr) (s : State) : ∃ cmds, (effectOf i s).busCmd = s.busCmd ++ cmds := by
  cases i
  case updIsr => exact State.updateHandler_busCmd_append s
  case cmpIsr => exact State.compareHandler_busCmd_append s
  case busEvent f d => exact State.busEvent_busCmd_append s f d
  case beginRead r => exact State.beginRead_busCmd_append s r
  all_goals exact ⟨[], by simp [effectOf]⟩

/-- Every operation leaves TXOUT or appends to it (R35). -/
theorem effectOf_txOut_append (i : Instr) (s : State) : ∃ bytes, (effectOf i s).txOut = s.txOut ++ bytes := by
  cases i
  case engineByte =>
    obtain ⟨b, hb⟩ := State.engineByte_txOut_append s
    exact ⟨[b], hb⟩
  all_goals exact ⟨[], by simp [effectOf]⟩

/-- Every operation only sets bits of FAULT (R34; 60_exceptions.md R200). -/
theorem effectOf_fault_or (i : Instr) (s : State) : ∃ m, (effectOf i s).fault = s.fault ||| m := by
  cases i
  case updIsr => exact State.updateHandler_fault_or s
  case cmpIsr => exact State.compareHandler_fault_or s
  case tcIsr => exact State.transferComplete_fault_or s
  case beginRead r => exact State.beginRead_fault_or s r
  case submit h => exact State.submit_fault_or s h
  case dequeue => exact State.dequeueLabelled_fault_or s
  case engineStart h => exact State.engineStart_fault_or s h
  all_goals exact ⟨0, by simp [effectOf]⟩

/-- Memory after an operation: RESET's, or FORMAT's (also inside a timer handler), or as it was (42_formatter.md R152). -/
theorem effectOf_mem (i : Instr) (s : State) :
    i = .reset ∨ (∃ ax v, (effectOf i s).mem = (s.format ax v).mem) ∨ (effectOf i s).mem = s.mem := by
  cases i
  case reset => exact .inl rfl
  case updIsr => exact .inr (.inl ⟨.x, s.latX, State.updateHandler_mem s⟩)
  case cmpIsr => exact .inr (.inl ⟨.y, s.latY, State.compareHandler_mem s⟩)
  case format ax v => exact .inr (.inl ⟨ax, v, rfl⟩)
  all_goals exact .inr (.inr (by simp [effectOf]))

/-! ### The invariants of R40, operation by operation -/

/-- TC_ISR keeps the invariant of the ring. -/
theorem State.transferComplete_queueInv {s : State} (hi : s.QueueInv) : s.transferComplete.QueueInv := by
  by_cases h : s.qCount = 0
  · rw [State.transferComplete_empty h]; exact hi
  · rw [State.transferComplete_held h]
    exact State.dequeue_queueInv hi h (by simp) (by simp) (by simp) (by simp) (by simp)

/-- A unit-mode DEQUEUE keeps the invariant of the ring. -/
theorem State.dequeueLabelled_queueInv {s : State} (hi : s.QueueInv) : s.dequeueLabelled.QueueInv := by
  by_cases h : s.qCount = 0
  · rw [State.dequeueLabelled_empty h]; exact hi
  · rw [State.dequeueLabelled_held h]
    exact State.dequeue_queueInv hi h rfl rfl rfl rfl rfl

/-- SUBMIT keeps the invariant of the ring. -/
theorem State.submit_queueInv {s : State} (hi : s.QueueInv) (h : Handle) : (s.submit h).QueueInv := by
  rcases State.submit_cases s h with hs | hs <;> rw [hs]
  · exact (State.queueInv_congr (by simp) (by simp) (by simp) (by simp) (by simp)).2 hi
  · exact State.enqueue_queueInv hi h

/-- CMP_ISR submits the frame's handle, with the queue as it was: its BEGIN_READ and FORMAT do not touch it. -/
theorem State.compareHandler_submits (s : State) :
    ∃ u : State, s.compareHandler = u.submit s.config.frameBase ∧ u.config = s.config ∧ u.q = s.q ∧ u.qHead = s.qHead ∧
      u.qTail = s.qTail ∧ u.qCount = s.qCount :=
  ⟨_, State.compareHandler_eq s, by simp, by simp, by simp, by simp, by simp⟩

/-- CMP_ISR keeps the invariant of the ring. -/
theorem State.compareHandler_queueInv {s : State} (hi : s.QueueInv) : s.compareHandler.QueueInv := by
  obtain ⟨u, hs, hc, hq, hh, ht, hn⟩ := State.compareHandler_submits s
  rw [hs]
  exact State.submit_queueInv ((State.queueInv_congr hc hq hh ht hn).2 hi) _

/-- Every operation keeps invariant 1 of R40. -/
theorem effectOf_queueInv (i : Instr) {s : State} (hw : s.config.WellFormed) (hi : s.QueueInv) :
    (effectOf i s).QueueInv := by
  cases i
  case reset =>
    have hcap : 0 < s.config.qcap := ((Config.wellFormed_iff _).1 hw).1
    have hlen : s.q.length = s.config.qcap := hi.1
    exact ⟨by simpa [effectOf] using hlen, by simpa [effectOf] using hcap, by simp [effectOf], by simp [effectOf]⟩
  case cmpIsr => exact State.compareHandler_queueInv hi
  case tcIsr => exact State.transferComplete_queueInv hi
  case submit h => exact State.submit_queueInv hi h
  case enqueue h => exact State.enqueue_queueInv hi h
  case dequeue => exact State.dequeueLabelled_queueInv hi
  all_goals
    exact (State.queueInv_congr (by simp [effectOf]) (by simp [effectOf]) (by simp [effectOf]) (by simp [effectOf])
      (by simp [effectOf])).2 hi

/-- The invariants of the engine depend on its registers and the transfer length alone. -/
theorem State.engineInv_congr {s t : State} (hc : t.config = s.config) (hb : t.engBusy = s.engBusy)
    (ht : t.tcPend = s.tcPend) (hr : t.txRem = s.txRem) : t.EngineInv ↔ s.EngineInv := by
  unfold State.EngineInv; rw [hc, hb, ht, hr]

/-- A transfer that has just started satisfies the invariants of the engine: it has bytes to move. -/
theorem State.engineStart_idle_engineInv {s : State} (hw : s.config.WellFormed) (hr : s.txRem = 0)
    (ht : s.tcPend = false) (h : Handle) : (s.engineStart h).EngineInv := by
  have hlen : s.config.txLen = 11 := by
    obtain ⟨-, -, -, -, -, -, hlen⟩ := (Config.wellFormed_iff _).1 hw
    exact hlen
  rw [State.engineStart_idle hr ht]
  simp [State.EngineInv, hlen, ht]

/-- ENGINE_START keeps the invariants of the engine: it starts a transfer or raises F_ENGBUSY. -/
theorem State.engineStart_engineInv {s : State} (hw : s.config.WellFormed) (hi : s.EngineInv) (h : Handle) :
    (s.engineStart h).EngineInv := by
  by_cases hb : s.txRem ≠ 0 ∨ s.tcPend = true
  · rw [State.engineStart_busy hb]; exact hi
  · simp only [not_or, not_not, Bool.not_eq_true] at hb
    exact State.engineStart_idle_engineInv hw hb.1 hb.2 h

/-- SUBMIT keeps the invariants of the engine. -/
theorem State.submit_engineInv {s : State} (hw : s.config.WellFormed) (hi : s.EngineInv) (h : Handle) :
    (s.submit h).EngineInv := by
  rcases State.submit_cases s h with hs | hs <;> rw [hs]
  · exact State.engineStart_engineInv hw hi h
  · exact (State.engineInv_congr (by simp) (by simp) (by simp) (by simp)).2 hi

/-- CMP_ISR keeps the invariants of the engine. -/
theorem State.compareHandler_engineInv {s : State} (hw : s.config.WellFormed) (hi : s.EngineInv) :
    s.compareHandler.EngineInv := by
  rw [State.compareHandler_eq]
  apply State.submit_engineInv (by simpa using hw)
  exact (State.engineInv_congr (by simp) (by simp) (by simp) (by simp)).2 hi

/-- ENGINE_BYTE with a byte to move keeps the invariants of the engine: the completion comes with the last byte. -/
theorem State.engineByte_engineInv {s : State} (hi : s.EngineInv) (hpos : 0 < s.txRem) : s.engineByte.EngineInv := by
  obtain ⟨hbusy, -, -, -, hle⟩ := hi
  obtain ⟨hb, ht⟩ := hbusy hpos
  simp only [State.EngineInv, State.engineByte_txRem, State.engineByte_tcPend, State.engineByte_engBusy,
    State.engineByte_config, hb, ht, Bool.false_or, decide_eq_true_eq, decide_eq_false_iff_not, true_and,
    Bool.true_eq_false, false_implies, true_implies]
  omega

/-- TC_ISR on a pending completion keeps the invariants of the engine: the engine is Idle or has a new transfer. -/
theorem State.transferComplete_engineInv {s : State} (hw : s.config.WellFormed) (hi : s.EngineInv)
    (ht : s.tcPend = true) : s.transferComplete.EngineInv := by
  have hr : s.txRem = 0 := (hi.2.1 ht).2
  by_cases h : s.qCount = 0
  · rw [State.transferComplete_empty h]
    simp [State.EngineInv, hr]
  · rw [State.transferComplete_held h]
    exact State.engineStart_idle_engineInv (s := { s with tcPend := false, qHead := _, qCount := _ }) hw hr rfl _

/-- Every enabled operation keeps invariants 3 to 6 of R40. -/
theorem effectOf_engineInv {i : Instr} {s : State} (hw : s.config.WellFormed) (he : enabled i s = true)
    (hi : s.EngineInv) : (effectOf i s).EngineInv := by
  cases i
  case reset => simp [State.EngineInv, effectOf]
  case cmpIsr => exact State.compareHandler_engineInv hw hi
  case engineByte => exact State.engineByte_engineInv hi (by simpa [enabled] using he)
  case tcIsr => exact State.transferComplete_engineInv hw hi he
  case submit h => exact State.submit_engineInv hw hi h
  case engineStart h => exact State.engineStart_engineInv hw hi h
  all_goals
    exact (State.engineInv_congr (by simp [effectOf]) (by simp [effectOf]) (by simp [effectOf])
      (by simp [effectOf])).2 hi

/-- A tick keeps CNT below the period (41_scheduler.md R131). -/
theorem State.timerTick_timerInv {s : State} (hw : s.config.WellFormed) (hi : s.TimerInv) : s.timerTick.TimerInv := by
  have hle : s.cnt ≤ s.config.period - 1 := hi
  by_cases h : s.cnt = s.config.period - 1
  · rw [State.timerTick_rollover h]
    exact Nat.zero_le _
  · have hlt : s.cnt < s.config.period - 1 := by omega
    rw [State.timerTick_within h]
    show nextCount s.config s.cnt ≤ s.config.period - 1
    rw [nextCount_eq hw hlt]
    exact hlt

/-- Every operation keeps invariant 7 of R40. -/
theorem effectOf_timerInv (i : Instr) {s : State} (hw : s.config.WellFormed) (hi : s.TimerInv) :
    (effectOf i s).TimerInv := by
  cases i
  case reset => simp [State.TimerInv, effectOf]
  case timerTick => exact State.timerTick_timerInv hw hi
  all_goals simpa [State.TimerInv, effectOf] using hi

/-! ### The frame -/

/-- The reset content of the frame is what a frame may hold (30_encoding.md R82). -/
theorem frameInit_ok (c : Config) {i : Nat} (h : i < frameLen) : ((frameInit c)[i]?).any (frameByteOk c i) = true := by
  unfold frameLen at h
  interval_cases i <;> simp [frameInit, frameByteOk]

/-- The digits FORMAT writes are what a frame may hold at their places: hundreds up to 2, tens and ones up to 9
(42_formatter.md R151). -/
theorem digitBytes_ok (c : Config) (ax : Axis) (v : Byte) {k : Nat} {b : Byte} (h : (digitBytes v)[k]? = some b) :
    frameByteOk c (fieldOffset ax + k) b = true := by
  have hv := v.isLt
  rw [digitBytes_eq] at h
  rcases k with _ | _ | _ | k
  case succ.succ.succ => simp at h
  all_goals
    obtain rfl : _ = b := by simpa using h
    cases ax <;> simp [frameByteOk, fieldOffset] <;> omega

/-- FORMAT keeps invariant 8 of R40. -/
theorem State.format_frameInv {s : State} (hi : s.FrameInv) (ax : Axis) (v : Byte) : (s.format ax v).FrameInv := by
  intro i hlt
  have hs : (s.readByte (s.config.frameBase.toNat + i)).any (frameByteOk s.config i) = true := hi i hlt
  simp only [State.frame, State.readByte_format, State.format_config, Nat.add_le_add_iff_left, Nat.add_sub_add_left]
  split
  · next hoff =>
    cases hd : (digitBytes v)[i - fieldOffset ax]? with
    | none => simpa using hs
    | some b =>
      have hok := digitBytes_ok s.config ax v hd
      rw [Nat.add_sub_of_le hoff] at hok
      simpa using hok
  · exact hs

/-- RESET leaves the frame at its reset content (70_reset_and_hazards.md R230). -/
theorem State.frame_resetBlock (s : State) {i : Nat} (h : i < frameLen) :
    s.resetBlock.frame i = (frameInit s.config)[i]? := by
  have hlt : i < (frameInit s.config).length := h
  simp [State.frame, State.readByte_resetBlock, List.getElem?_eq_getElem hlt]

/-- The launch state has the frame at its reset content (70_reset_and_hazards.md R231). -/
theorem State.frame_launch (c : Config) (i : Nat) : (State.launch c).frame i = (frameInit c)[i]? := by
  simp only [State.frame, State.readByte, State.launch, Memory.read, Memory.unlisted, Memory.lookup]
  cases h : (frameInit c)[i]? <;> simp [h]

/-- Invariant 8 of R40 depends on the configuration and memory alone. -/
theorem State.frameInv_congr {s t : State} (hc : t.config = s.config) (hm : t.mem = s.mem) : t.FrameInv ↔ s.FrameInv := by
  simp only [State.FrameInv, State.frame, State.readByte, hc, hm]

/-- Every operation keeps invariant 8 of R40. -/
theorem effectOf_frameInv (i : Instr) {s : State} (hi : s.FrameInv) : (effectOf i s).FrameInv := by
  rcases effectOf_mem i s with rfl | ⟨ax, v, hm⟩ | hm
  · intro k hk
    rw [effectOf, State.frame_resetBlock s hk, State.resetBlock_config]
    exact frameInit_ok s.config hk
  · exact (State.frameInv_congr (by simp) hm).2 (State.format_frameInv hi ax v)
  · exact (State.frameInv_congr (by simp) hm).2 hi

/-- Every operation keeps the canonical form of memory. -/
theorem effectOf_memWf (i : Instr) {s : State} (hi : Memory.wf s.config s.mem) :
    Memory.wf (effectOf i s).config (effectOf i s).mem := by
  rw [effectOf_config]
  rcases effectOf_mem i s with rfl | ⟨ax, v, hm⟩ | hm
  · exact State.writeBytes_wf s.resetRegisters _ _ hi
  · rw [hm]; exact State.writeBytes_wf s _ _ hi
  · rw [hm]; exact hi

/-- Every enabled operation keeps the invariants of the block. -/
theorem effectOf_inv {i : Instr} {s : State} (he : enabled i s = true) (hi : s.Inv) : (effectOf i s).Inv := by
  obtain ⟨hw, hq, hg, ht, hf, hm⟩ := hi
  exact ⟨by rwa [effectOf_config], effectOf_queueInv i hw hq, effectOf_engineInv hw he hg, effectOf_timerInv i hw ht,
    effectOf_frameInv i hf, effectOf_memWf i hm⟩

/-- Settles O50: an operation keeps each invariant, and an illegal word writes FAULT alone, which no invariant reads. -/
theorem everyStepKeepsTheInvariants : Obligations.EveryStepKeepsTheInvariants := by
  intro s t hi h
  obtain ⟨-, w, ws, -, ⟨i, -, he, rfl⟩ | ⟨-, rfl⟩⟩ := step_effect h
  · exact effectOf_inv (s := { s with schedule := ws }) he hi
  · exact hi



/-! ### Which operation writes which register -/

/-- Settles O53: operation by operation, each register is one it writes, or one its field lemma says it leaves. -/
theorem busRegistersHaveOnlyTheirWriters : Obligations.BusRegistersHaveOnlyTheirWriters := by
  intro i s t h
  obtain ⟨-, -, rfl⟩ := exec_eq_next.1 h
  cases i <;> simp [effectOf, opcodeOf]

/-- Settles O54: operation by operation, each register is one it writes, or one its field lemma says it leaves. -/
theorem timerRegistersHaveOnlyTheirWriters : Obligations.TimerRegistersHaveOnlyTheirWriters := by
  intro i s t h
  obtain ⟨-, -, rfl⟩ := exec_eq_next.1 h
  cases i <;> simp [effectOf, opcodeOf]

/-- Settles O55: operation by operation, each register is one it writes, or one its field lemma says it leaves. -/
theorem queueAndEngineRegistersHaveOnlyTheirWriters : Obligations.QueueAndEngineRegistersHaveOnlyTheirWriters := by
  intro i s t h
  obtain ⟨-, -, rfl⟩ := exec_eq_next.1 h
  cases i <;> simp [effectOf, opcodeOf]

/-- Settles O15: of the latches' writers only BUS_EVENT is no RESET, and it writes one in row 6 alone. -/
theorem latchesAreWrittenOnlyByRowSix : Obligations.LatchesAreWrittenOnlyByRowSix := by
  intro i s t h hne hlat
  obtain ⟨-, -, hwx, hwy, -⟩ := busRegistersHaveOnlyTheirWriters i s t h
  have hop : opcodeOf i ∈ [.busEvent, .reset] := hlat.elim hwx hwy
  obtain ⟨f, d, rfl⟩ : ∃ f d, i = .busEvent f d := by
    cases i <;> simp_all [opcodeOf]
  obtain ⟨-, -, rfl⟩ := exec_eq_next.1 h
  simp only [effectOf] at hlat ⊢
  by_cases hrow : s.tstate = .awaitRxne ∧ f.getLsbD 3 = true
  · obtain ⟨hst, hf⟩ := hrow
    refine ⟨f, d, rfl, hst, hf, ?_⟩
    simp only [State.busEvent_row6 hst hf, State.row6_eq] at hlat ⊢
    by_cases hx : s.curReg = s.config.regX
    · simp [hx]
    · by_cases hy : s.curReg = s.config.regY
      · exact .inr ⟨hy, if_pos ⟨hx, hy⟩, if_neg hx⟩
      · simp [hx, hy] at hlat
  · obtain ⟨hlx, hly⟩ := State.busEvent_latches hrow d
    simp [hlx, hly] at hlat

/-- Where BEGIN_READ's move changes a position, it was IDLE and is AWAIT_SB1. -/
theorem TState.began_of_ne {st : TState} (h : (if st = .idle then .awaitSb1 else st) ≠ st) :
    st = .idle ∧ (if st = .idle then .awaitSb1 else st) = .awaitSb1 := by
  by_cases hi : st = .idle
  · exact ⟨hi, if_pos hi⟩
  · exact absurd (if_neg hi) h

/-- Settles O16: TSTATE's writers, one by one; BEGIN_READ and the handlers that run it move it from IDLE alone, and BUS_EVENT
leaves IDLE where it is. -/
theorem tstateHasTwoWritersAndReset : Obligations.TstateHasTwoWritersAndReset := by
  refine ⟨fun s hw hidle => ⟨fun r => ⟨_, exec_next hw rfl, ?_⟩, fun hu => ⟨_, exec_next hw hu, ?_⟩,
    fun hc => ⟨_, exec_next hw hc, ?_⟩⟩, fun i s t h hne => ?_⟩
  · simp [effectOf, State.beginRead_tstate, hidle]
  · simp [effectOf, State.updateHandler_tstate, hidle]
  · simp [effectOf, State.compareHandler_tstate, hidle]
  · have hop := (busRegistersHaveOnlyTheirWriters i s t h).1 hne
    obtain ⟨-, -, rfl⟩ := exec_eq_next.1 h
    cases i <;> simp only [opcodeOf, effectOf] at hop hne ⊢
    case reset => simp
    case beginRead r =>
      rw [State.beginRead_tstate] at hne ⊢
      obtain ⟨hidle, hmoved⟩ := TState.began_of_ne hne
      exact .inr (.inr ⟨hidle, hmoved, by simp⟩)
    case updIsr =>
      rw [State.updateHandler_tstate] at hne ⊢
      obtain ⟨hidle, hmoved⟩ := TState.began_of_ne hne
      exact .inr (.inr ⟨hidle, hmoved, by simp⟩)
    case cmpIsr =>
      rw [State.compareHandler_tstate] at hne ⊢
      obtain ⟨hidle, hmoved⟩ := TState.began_of_ne hne
      exact .inr (.inr ⟨hidle, hmoved, by simp⟩)
    case busEvent f d =>
      refine .inr (.inl ⟨fun hidle => hne ?_, f, d, rfl⟩)
      rw [State.busEvent_tstate_of_idle hidle, hidle]
    all_goals simp at hop

/-! ### What the queue holds -/

/-- ENQUEUE appends its handle or drops it (43_queue_dispatch.md R160). -/
theorem State.contents_enqueue_cases {s : State} (hi : s.QueueInv) (h : Handle) :
    (s.enqueue h).contents = s.contents ∨ (s.enqueue h).contents = s.contents ++ [h] := by
  by_cases hf : s.qCount = s.config.qcap
  · exact .inl (by rw [State.enqueue_full hf])
  · exact .inr (State.contents_enqueue hi hf h)

/-- SUBMIT appends its handle, or leaves what the queue holds: it drops the handle or gives it to the engine. -/
theorem State.contents_submit_cases {s : State} (hi : s.QueueInv) (h : Handle) :
    (s.submit h).contents = s.contents ∨ (s.submit h).contents = s.contents ++ [h] := by
  rcases State.submit_cases s h with hs | hs <;> rw [hs]
  · exact .inl (State.contents_congr (by simp) (by simp) (by simp) (by simp))
  · exact State.contents_enqueue_cases hi h

/-- CMP_ISR appends the frame's handle, or leaves what the queue holds. -/
theorem State.contents_compareHandler_cases {s : State} (hi : s.QueueInv) :
    s.compareHandler.contents = s.contents ∨ s.compareHandler.contents = s.contents ++ [s.config.frameBase] := by
  obtain ⟨u, hs, hc, hq, hh, ht, hn⟩ := State.compareHandler_submits s
  rw [hs, ← State.contents_congr hc hq hh hn]
  exact State.contents_submit_cases ((State.queueInv_congr hc hq hh ht hn).2 hi) _

/-- DEQUEUE removes the oldest handle, or finds the queue empty and leaves it (43_queue_dispatch.md R161). -/
theorem State.contents_dequeueLabelled_cases {s : State} (hi : s.QueueInv) :
    s.dequeueLabelled.contents = s.contents ∨ ∃ h, s.contents = h :: s.dequeueLabelled.contents := by
  by_cases hn : s.qCount = 0
  · exact .inl (by rw [State.dequeueLabelled_empty hn]; rfl)
  · rw [State.dequeueLabelled_held hn]
    exact .inr ⟨_, State.contents_dequeue hn hi.2.1 rfl rfl rfl rfl⟩

/-- TC_ISR removes the oldest handle, or finds the queue empty and leaves it (43_queue_dispatch.md R166). -/
theorem State.contents_transferComplete_cases {s : State} (hi : s.QueueInv) :
    s.transferComplete.contents = s.contents ∨ ∃ h, s.contents = h :: s.transferComplete.contents := by
  by_cases hn : s.qCount = 0
  · exact .inl (by rw [State.transferComplete_empty hn]; rfl)
  · rw [State.transferComplete_held hn]
    exact .inr ⟨_, State.contents_dequeue hn hi.2.1 (by simp) (by simp) (by simp) (by simp)⟩

/-- Settles O34: the operations that touch the queue, each by what it does to the contents; the others leave its registers. -/
theorem queueChangesOnlyAtItsEnds : Obligations.QueueChangesOnlyAtItsEnds := by
  intro i s t hi h
  obtain ⟨-, -, rfl⟩ := exec_eq_next.1 h
  cases i
  case reset => exact .inr (.inr (.inr ⟨rfl, by simp [effectOf, State.contents]⟩))
  case enqueue x =>
    exact (State.contents_enqueue_cases hi x).imp id fun hc => .inl ⟨x, hc, .inl rfl⟩
  case submit x =>
    exact (State.contents_submit_cases hi x).imp id fun hc => .inl ⟨x, hc, .inr (.inl rfl)⟩
  case cmpIsr =>
    exact (State.contents_compareHandler_cases hi).imp id fun hc => .inl ⟨_, hc, .inr (.inr ⟨rfl, rfl⟩)⟩
  case dequeue =>
    exact (State.contents_dequeueLabelled_cases hi).imp id fun ⟨x, hx⟩ => .inr (.inl ⟨x, hx, .inl rfl⟩)
  case tcIsr =>
    exact (State.contents_transferComplete_cases hi).imp id fun ⟨x, hx⟩ => .inr (.inl ⟨x, hx, .inr rfl⟩)
  all_goals
    exact .inl (State.contents_congr (by simp [effectOf]) (by simp [effectOf]) (by simp [effectOf]) (by simp [effectOf]))

/-! ### Every step: FAULT, the traces, the parameters -/

/-- Settles O44: an operation, or an illegal word, only sets bits. -/
theorem faultBitsAreSticky : Obligations.FaultBitsAreSticky := by
  intro s t h
  have hor : ∃ m, t.fault = s.fault ||| m := by
    obtain ⟨-, w, ws, -, ⟨i, -, -, rfl⟩ | ⟨-, rfl⟩⟩ := step_effect h
    · exact effectOf_fault_or i { s with schedule := ws }
    · exact ⟨_, rfl⟩
  obtain ⟨m, hm⟩ := hor
  rw [hm]
  ext k
  simpa using Or.inl

/-- Settles O52: an operation leaves each trace or appends to it, and an illegal word leaves both. -/
theorem tracesOnlyGrow : Obligations.TracesOnlyGrow := by
  refine ⟨fun c => ⟨rfl, rfl⟩, fun s t h => ?_⟩
  obtain ⟨-, w, ws, -, ⟨i, -, -, rfl⟩ | ⟨-, rfl⟩⟩ := step_effect h
  · obtain ⟨cmds, hcmds⟩ := effectOf_busCmd_append i { s with schedule := ws }
    obtain ⟨bytes, hbytes⟩ := effectOf_txOut_append i { s with schedule := ws }
    exact ⟨cmds, bytes, hcmds, hbytes⟩
  · exact ⟨[], [], by simp, by simp⟩

/-- Settles O51: no operation writes the configuration or the schedule, so the step takes the one word it ran. -/
theorem noStepWritesTheConfiguration : Obligations.NoStepWritesTheConfiguration := by
  intro s t h
  obtain ⟨-, w, ws, hs, ⟨i, -, -, rfl⟩ | ⟨-, rfl⟩⟩ := step_effect h
  · exact ⟨by simp, w, by simpa using hs⟩
  · exact ⟨by simp, w, by simpa using hs⟩

/-! ### The launch state -/

/-- Settles O47: the registers by definition, the frame by reading an empty memory. -/
theorem launchStateIsTheResetColumn : Obligations.LaunchStateIsTheResetColumn := by
  refine ⟨⟨Config.reference, rfl⟩, ?_⟩
  rintro c s rfl
  refine ⟨rfl, rfl, rfl, rfl, rfl, rfl, rfl, rfl, rfl, List.length_replicate, rfl, rfl, rfl, rfl, rfl, rfl, rfl, rfl, rfl, rfl,
    fun i _ => ?_⟩
  rw [State.frame_launch, frameInit]

/-- Settles O49: the queue and the engine are empty, CNT is 0, and the frame is at its reset content. -/
theorem launchSatisfiesTheInvariants : Obligations.LaunchSatisfiesTheInvariants := by
  intro c hw
  have hcap : 1 ≤ c.qcap := ((Config.wellFormed_iff c).1 hw).1
  have hqueue : (State.launch c).QueueInv := ⟨List.length_replicate, hcap, Nat.zero_le _, (Nat.zero_mod _).symm⟩
  have hengine : (State.launch c).EngineInv := by simp [State.EngineInv, State.launch]
  have hframe : (State.launch c).FrameInv := by
    intro i hi
    rw [State.frame_launch]
    exact frameInit_ok c hi
  exact ⟨hw, hqueue, hengine, Nat.zero_le _, hframe, Memory.launch_wf c⟩

end Sys2Proof.Machine

/-! The proofs of 20_memory.md: which bytes the block determines, and which bytes each operation may change (R50-R53). -/

namespace Sys2Proof.Machine

/-! ### Which bytes the block determines -/

/-- Settles O28: the determined bytes are the P_FRAME_LEN = 11 from P_FRAME_BASE on, so the last is at P_FRAME_BASE + 10. -/
theorem frameBufferIsAllTheBlockDetermines : Obligations.FrameBufferIsAllTheBlockDetermines := by
  intro s a
  rw [State.readByte_ne_none]
  have hlast : a < s.config.frameBase.toNat + frameLen ↔ a ≤ s.config.frameBase.toNat + 10 := Nat.lt_succ_iff
  rw [hlast]

/-! ### Which bytes a store leaves -/

/-- What an address reads as depends on the configuration and memory alone. -/
theorem State.readByte_congr {s t : State} (hc : t.config = s.config) (hm : t.mem = s.mem) (a : Nat) :
    t.readByte a = s.readByte a := by
  rw [State.readByte, State.readByte, hc, hm]

@[simp] theorem digitBytes_length (v : Byte) : (digitBytes v).length = 3 := by
  rw [digitBytes_eq]; rfl

/-- FORMAT leaves every byte outside the three of its axis's field (42_formatter.md R152). -/
theorem State.readByte_format_outside (s : State) (ax : Axis) (v : Byte) {a : Nat}
    (ha : a < s.config.frameBase.toNat + fieldOffset ax ∨ s.config.frameBase.toNat + fieldOffset ax + 3 ≤ a) :
    (s.format ax v).readByte a = s.readByte a := by
  rw [State.readByte_format]
  split
  · have hpast : (digitBytes v)[a - (s.config.frameBase.toNat + fieldOffset ax)]? = none := by
      rw [List.getElem?_eq_none_iff, digitBytes_length]
      omega
    rw [hpast, Option.none_or]
  · rfl

/-- RESET leaves every byte outside the frame buffer (R53). -/
theorem State.readByte_resetBlock_outside (s : State) {a : Nat}
    (ha : a < s.config.frameBase.toNat ∨ s.config.frameBase.toNat + 11 ≤ a) :
    s.resetBlock.readByte a = s.readByte a := by
  rw [State.readByte_resetBlock]
  split
  · have hpast : (frameInit s.config)[a - s.config.frameBase.toNat]? = none := by
      rw [List.getElem?_eq_none_iff, show (frameInit s.config).length = 11 from rfl]
      omega
    rw [hpast, Option.none_or]
  · rfl

/-! ### Which bytes an operation changes -/

/-- UPD_ISR changes memory as its FORMAT of the X axis does. -/
theorem State.readByte_updateHandler (s : State) (a : Nat) :
    s.updateHandler.readByte a = (s.format .x s.latX).readByte a :=
  State.readByte_congr (by simp) (by simp) a

/-- CMP_ISR changes memory as its FORMAT of the Y axis does. -/
theorem State.readByte_compareHandler (s : State) (a : Nat) :
    s.compareHandler.readByte a = (s.format .y s.latY).readByte a :=
  State.readByte_congr (by simp) (by simp) a

/-- Settles O30: RESET and FORMAT, also inside a timer handler, by the bytes their store leaves; every other operation writes
neither memory nor the configuration. -/
theorem bytesChangeOnlyWhereTheRuleStores : Obligations.BytesChangeOnlyWhereTheRuleStores := by
  intro i s t h
  obtain ⟨-, -, rfl⟩ := exec_eq_next.1 h
  cases i
  case reset => exact fun a ha => State.readByte_resetBlock_outside s ha
  case format ax v => exact fun a ha => State.readByte_format_outside s ax v ha
  case updIsr =>
    exact fun a ha => (State.readByte_updateHandler s a).trans (State.readByte_format_outside s .x s.latX ha)
  case cmpIsr =>
    exact fun a ha => (State.readByte_compareHandler s a).trans (State.readByte_format_outside s .y s.latY ha)
  all_goals exact State.readByte_congr (effectOf_config _ s) (by simp [effectOf])

end Sys2Proof.Machine

/-! The proofs of 30_encoding.md: the decoder and the encoder against each other and against the opcode table (R70-R74), the step on
the word presented (R70, R76), and what reaches the transport in system mode (R82). -/

namespace Sys2Proof

/-! ### The operation codes (R72) -/

/-- The operations' codes, in the order of the opcode table (R72). -/
def Opcode.all : List Opcode :=
  [.reset, .timerStart, .timerTick, .updIsr, .cmpIsr, .busEvent, .engineByte, .tcIsr, .beginRead, .format, .submit, .enqueue,
    .dequeue, .engineStart]

theorem Opcode.mem_all (op : Opcode) : op ∈ Opcode.all := by cases op <;> decide

/-- The OPC value of an operation (R72). -/
def Opcode.code : Opcode → BitVec 8
  | .reset => 0x00
  | .timerStart => 0x01
  | .timerTick => 0x02
  | .updIsr => 0x03
  | .cmpIsr => 0x04
  | .busEvent => 0x05
  | .engineByte => 0x06
  | .tcIsr => 0x07
  | .beginRead => 0x08
  | .format => 0x09
  | .submit => 0x0A
  | .enqueue => 0x0B
  | .dequeue => 0x0C
  | .engineStart => 0x0D

@[simp] theorem Opcode.ofCode?_code (op : Opcode) : Opcode.ofCode? op.code = some op := by cases op <;> rfl

/-- An OPC value names the operation whose code it is, and no other. -/
theorem Opcode.ofCode?_eq_some {c : BitVec 8} {op : Opcode} : Opcode.ofCode? c = some op ↔ c = op.code := by
  refine ⟨fun h => ?_, fun h => h ▸ Opcode.ofCode?_code op⟩
  apply BitVec.eq_of_toNat_eq
  unfold Opcode.ofCode? at h
  split at h
  case h_15 => cases h
  all_goals
    next hc =>
    cases h
    exact hc

/-- What it takes for the decoder to read an operation from a word, with OPC compared to the operation's code. -/
theorem decode_eq_ok_iff {w : OpWord} {i : Instr} :
    decode w = .ok i ↔ ∃ op : Opcode, opcField w = op.code ∧ rsvField w = 0 ∧ op.unusedZero w = true ∧ op.build w = i := by
  simp only [decode_eq_ok, Opcode.ofCode?_eq_some]

/-! ### The fields an operation uses (R72, R73) -/

/-- FORMAT alone uses AX (R72). -/
def Opcode.usesAx (op : Opcode) : Bool := op == .format

/-- BUS_EVENT alone uses FLG (R72). -/
def Opcode.usesFlg (op : Opcode) : Bool := op == .busEvent

/-- The operations with a byte operand use VAL (R72). -/
def Opcode.usesVal (op : Opcode) : Bool := [Opcode.busEvent, .beginRead, .format].contains op

/-- The operations with a handle use H (R72). -/
def Opcode.usesH (op : Opcode) : Bool := [Opcode.submit, .enqueue, .engineStart].contains op

/-- What the decoder asks of the fields beside OPC and RSV: each is zero unless the operation uses it (R73). -/
theorem Opcode.unusedZero_iff {op : Opcode} {w : OpWord} : op.unusedZero w = true ↔
    (op.usesAx = false → axField w = 0) ∧ (op.usesFlg = false → flgField w = 0) ∧
      (op.usesVal = false → valField w = 0) ∧ (op.usesH = false → hField w = 0) := by
  cases op <;> simp [Opcode.unusedZero, Opcode.usesAx, Opcode.usesFlg, Opcode.usesVal, Opcode.usesH, and_assoc]

/-- The codes of the operations that use each field, as R72 lists them. -/
theorem Opcode.code_of_uses (op : Opcode) :
    (op.usesAx = true → op.code.toNat = 0x09) ∧ (op.usesFlg = true → op.code.toNat = 0x05) ∧
      (op.usesVal = true → op.code.toNat ∈ [0x05, 0x08, 0x09]) ∧ (op.usesH = true → op.code.toNat ∈ [0x0A, 0x0B, 0x0D]) := by
  cases op <;> decide

theorem Opcode.code_lt (op : Opcode) : op.code.toNat < 0x0E := by cases op <;> decide

/-! ### Encoder and decoder (R70-R73) -/

namespace Machine

@[simp] theorem opcField_encode (i : Instr) : opcField (encode i) = (opcodeOf i).code := by
  cases i <;> exact opcField_assemble ..

@[simp] theorem rsvField_encode (i : Instr) : rsvField (encode i) = 0 := by
  cases i <;> exact rsvField_assemble ..

/-- The encoder leaves the fields an operation does not use at zero (R73). -/
theorem unusedZero_encode (i : Instr) : (opcodeOf i).unusedZero (encode i) = true := by
  cases i <;> simp [opcodeOf, Opcode.unusedZero, encode]

/-- The operands sliced from the encoder's word are the operation's (R71). -/
theorem build_encode (i : Instr) : (opcodeOf i).build (encode i) = i := by
  cases i <;> simp [opcodeOf, Opcode.build, encode]

/-- Settles O1: the encoder's word has the operation's code, zeros where the decoder asks for them, and the operands in place. -/
theorem decodeInvertsEncode : Obligations.DecodeInvertsEncode := fun i =>
  decode_eq_ok_iff.2 ⟨opcodeOf i, opcField_encode i, rsvField_encode i, unusedZero_encode i, build_encode i⟩

/-- The encoder puts the operands back where they were sliced from, with zeros in the fields not used (R71, R73). -/
theorem encode_build {op : Opcode} {w : OpWord} (h : op.unusedZero w = true) :
    encode (op.build w) = assemble op.code (axField w) (flgField w) (valField w) (hField w) := by
  cases op <;> simp_all [Opcode.unusedZero, Opcode.build, encode, Opcode.code]

/-- Settles O2: the word is the word of its fields, and the encoder writes just these. -/
theorem encodeInvertsDecode : Obligations.EncodeInvertsDecode := by
  intro w i h
  obtain ⟨op, hop, hrsv, hunused, rfl⟩ := decode_eq_ok_iff.1 h
  rw [encode_build hunused, ← hop, assemble_fields w hrsv]

end Machine

/-! ### The opcode table (R72-R74) -/

/-- The row of the opcode table for an operation's code. -/
def Opcode.row (op : Opcode) : OpcodeRow := opcodeTable[op.code.toNat]'(by cases op <;> decide)

/-- The rows of the opcode table are the rows of the operations. -/
theorem mem_opcodeTable {row : OpcodeRow} : row ∈ opcodeTable ↔ ∃ op : Opcode, op.row = row := by
  have hrows : opcodeTable = Opcode.all.map Opcode.row := rfl
  simp [hrows, Opcode.mem_all]

/-- A row's pattern is the operation's code and nothing else. -/
theorem Opcode.row_pattern (op : Opcode) : op.row.pattern = assemble op.code 0 0 0 0 := by cases op <;> rfl

/-- Every row's mask covers OPC and RSV. -/
theorem Opcode.row_mask_opc_rsv (op : Opcode) :
    opcField op.row.mask = BitVec.allOnes 8 ∧ rsvField op.row.mask = BitVec.allOnes 11 := by
  cases op <;> exact ⟨rfl, rfl⟩

/-- The part of a row's mask that lies over a field: nothing when the operation uses the field, and else all of it. -/
def fieldMask (n : Nat) (used : Bool) : BitVec n := if used then 0 else BitVec.allOnes n

theorem and_fieldMask_eq_zero {n : Nat} {x : BitVec n} {used : Bool} :
    x &&& fieldMask n used = 0 ↔ (used = false → x = 0) := by
  cases used
  · rw [fieldMask, if_neg Bool.false_ne_true, BitVec.and_allOnes]; simp
  · rw [fieldMask, if_pos rfl]; simp

/-- A row's mask covers, beside OPC and RSV, just the fields the operation does not use (R72, R73). -/
theorem Opcode.row_mask_operands (op : Opcode) :
    axField op.row.mask = fieldMask 1 op.usesAx ∧ flgField op.row.mask = fieldMask 4 op.usesFlg ∧
      valField op.row.mask = fieldMask 8 op.usesVal ∧ hField op.row.mask = fieldMask 32 op.usesH := by
  cases op <;> exact ⟨rfl, rfl, rfl, rfl⟩

/-- A word matches an operation's row when it has its code, RSV zero, and zeros in the fields it does not use. -/
theorem Opcode.matches_row_iff (op : Opcode) (w : OpWord) : w &&& op.row.mask = op.row.pattern ↔
    opcField w = op.code ∧ rsvField w = 0 ∧ op.unusedZero w = true := by
  obtain ⟨hopc, hrsv⟩ := op.row_mask_opc_rsv
  obtain ⟨hax, hflg, hval, hh⟩ := op.row_mask_operands
  rw [opWord_ext, Opcode.row_pattern, Opcode.unusedZero_iff]
  simp only [opcField_and, rsvField_and, axField_and, flgField_and, valField_and, hField_and, hopc, hrsv, hax, hflg, hval, hh,
    BitVec.and_allOnes, opcField_assemble, rsvField_assemble, axField_assemble, flgField_assemble, valField_assemble,
    hField_assemble, and_fieldMask_eq_zero]

namespace Machine

/-- Settles O3: both sides say that some operation has the word's OPC as its code, RSV zero, and zeros where it uses no field. -/
theorem legalWordsAreTheTablesWords : Obligations.LegalWordsAreTheTablesWords := by
  intro w
  calc (∃ i, decode w = .ok i)
      ↔ ∃ op : Opcode, opcField w = op.code ∧ rsvField w = 0 ∧ op.unusedZero w = true := by
        simp only [decode_eq_ok_iff]
        exact ⟨fun ⟨_, op, hopc, hrsv, hun, _⟩ => ⟨op, hopc, hrsv, hun⟩, fun ⟨op, hopc, hrsv, hun⟩ =>
          ⟨_, op, hopc, hrsv, hun, rfl⟩⟩
    _ ↔ ∃ op : Opcode, w &&& op.row.mask = op.row.pattern := by simp only [Opcode.matches_row_iff]
    _ ↔ ∃ row ∈ opcodeTable, w &&& row.mask = row.pattern := by simp [mem_opcodeTable]

/-- Settles O4: the six legal words are the encoder's words of their operations; of the others the fields are read. -/
theorem sampleWordsDecode : Obligations.SampleWordsDecode :=
  ⟨decodeInvertsEncode .reset, decodeInvertsEncode .timerTick, decodeInvertsEncode (.busEvent 0b1101 0x99),
    decodeInvertsEncode (.beginRead 0x29), decodeInvertsEncode (.format .y 42), decodeInvertsEncode (.submit 0x20000000),
    by decide, by decide, by decide⟩

/-! ### The step on the next word (R70, R74, R76) -/

/-- Settles O5: the step decodes the next word and runs what it stands for. -/
theorem stepRunsTheDecodedOperation : Obligations.StepRunsTheDecodedOperation := by
  intro s w ws i hs hd
  rw [step_cons hs, hd]

/-- A word presented whole stands before the schedule as it is. -/
theorem State.withFetchWord_schedule (s : State) (w : OpWord) :
    (s.withFetchWord 64 w.toNat).schedule = w :: s.schedule := by
  have hw : w.toNat % 2 ^ 64 = w.toNat := Nat.mod_eq_of_lt w.isLt
  rw [State.withFetchWord, presentWord, hw, BitVec.ofNat_toNat, BitVec.setWidth_eq]

/-- Settles O6: the presented word decodes to its operation, and taking it leaves the state it was presented at. -/
theorem presentedWordRunsNext : Obligations.PresentedWordRunsNext := fun s i =>
  stepRunsTheDecodedOperation _ _ _ i (State.withFetchWord_schedule s (encode i)) (decodeInvertsEncode i)

/-- The step on an illegal word raises F_RSVD and does nothing else (R74). -/
theorem step_illegal {s : State} {w : OpWord} {ws : List OpWord} {e : IllegalWord} (hw : s.config.WellFormed)
    (hs : s.schedule = w :: ws) (hd : decode w = .error e) :
    step s = .next (({ s with schedule := ws } : State).raiseFault .rsvd) := by
  rw [step_cons hs, hd]
  exact performIllegal_eq_next.2 ⟨hw, rfl⟩

/-- A legal word has a code below 0x0E, RSV zero, and every other field zero unless its code is one that uses the field
(R72, R73). -/
theorem fields_of_decode {w : OpWord} {i : Instr} (h : decode w = .ok i) :
    (opcField w).toNat < 0x0E ∧ rsvField w = 0 ∧ (axField w = 0 ∨ (opcField w).toNat = 0x09) ∧
      (flgField w = 0 ∨ (opcField w).toNat = 0x05) ∧ (valField w = 0 ∨ (opcField w).toNat ∈ [0x05, 0x08, 0x09]) ∧
      (hField w = 0 ∨ (opcField w).toNat ∈ [0x0A, 0x0B, 0x0D]) := by
  obtain ⟨op, hopc, hrsv, hunused, -⟩ := decode_eq_ok_iff.1 h
  obtain ⟨hax, hflg, hval, hh⟩ := Opcode.unusedZero_iff.1 hunused
  obtain ⟨cax, cflg, cval, ch⟩ := op.code_of_uses
  rw [hopc]
  exact ⟨op.code_lt, hrsv,
    (Bool.eq_false_or_eq_true _).symm.imp hax cax,
    (Bool.eq_false_or_eq_true _).symm.imp hflg cflg,
    (Bool.eq_false_or_eq_true _).symm.imp hval cval,
    (Bool.eq_false_or_eq_true _).symm.imp hh ch⟩

/-- Settles O7: a word the clauses speak of is not legal, so its step is that of an illegal word. -/
theorem illegalWordOnlyRaisesRsvd : Obligations.IllegalWordOnlyRaisesRsvd := by
  intro s w ws hw hs opc hill
  cases hd : decode w with
  | error e => exact step_illegal hw hs hd
  | ok i =>
    obtain ⟨hopc, hrsv, hax, hflg, hval, hh⟩ := fields_of_decode hd
    rcases hill with h | h | ⟨hne, h⟩ | ⟨hne, h⟩ | ⟨hne, h⟩ | ⟨hne, h⟩
    · exact absurd hopc (Nat.not_lt.2 h)
    · exact absurd hrsv h
    · exact (hax.elim hne h).elim
    · exact (hflg.elim hne h).elim
    · exact (hval.elim hne h).elim
    · exact (hh.elim hne h).elim

/-- Settles O9: the statement's condition is `enabled`, operation by operation; an illegal word always has its step. -/
theorem operationsStepExactlyWhenEnabled : Obligations.OperationsStepExactlyWhenEnabled := by
  intro i s hw open_
  have hen : enabled i s = true ↔ open_ := by
    cases i <;> simp [open_, enabled, pending, opcodeOf]
  refine ⟨fun h => ⟨_, exec_next hw (hen.2 h)⟩, fun h => ?_, fun w ws e hs hd => ⟨_, step_illegal hw hs hd⟩⟩
  exact exec_notEnabled hw (Bool.eq_false_iff.2 (mt hen.1 h))

end Machine

end Sys2Proof

/-! The output path in system mode: one frame buffer behind every handle, and TXOUT a row of frames (R82; 43_queue_dispatch.md R167,
R168). -/

namespace Sys2Proof.Machine

/-! ### The transfer in flight and TXOUT -/

/-- The part of `State.OutputFramed` about the transfer in flight and TXOUT. -/
def State.TransferFramed (s : State) : Prop :=
  (0 < s.txRem → s.txPtr.toNat = s.config.frameBase.toNat + (frameLen - s.txRem)) ∧
  (s.txOut.length + s.txRem) % frameLen = 0 ∧
  ∀ (n : Nat) (b : Byte), s.txOut[n]? = some b → frameByteOk s.config (n % frameLen) b = true

theorem State.outputFramed_iff (s : State) :
    s.OutputFramed ↔ s.Inv ∧ (∀ h ∈ s.contents, h = s.config.frameBase) ∧ s.TransferFramed := Iff.rfl

/-- It depends on the configuration, TX_PTR, TX_REM and TXOUT alone. -/
theorem State.TransferFramed.congr {s t : State} (hs : s.TransferFramed) (hc : t.config = s.config) (hp : t.txPtr = s.txPtr)
    (hr : t.txRem = s.txRem) (ho : t.txOut = s.txOut) : t.TransferFramed := by
  unfold State.TransferFramed
  rwa [hc, hp, hr, ho]

/-- ENGINE_START of the frame keeps it: with no byte left to move, the eleven to come are a whole frame more. -/
theorem State.TransferFramed.engineStart {s : State} (hs : s.TransferFramed) (hw : s.config.WellFormed) {h : Handle}
    (hh : h = s.config.frameBase) : (s.engineStart h).TransferFramed := by
  by_cases hb : s.txRem ≠ 0 ∨ s.tcPend = true
  · rw [State.engineStart_busy hb]; exact hs
  · simp only [not_or, not_not, Bool.not_eq_true] at hb
    obtain ⟨hr, ht⟩ := hb
    obtain ⟨-, -, -, -, -, -, hlen⟩ := (Config.wellFormed_iff _).1 hw
    obtain ⟨-, hwhole, hbytes⟩ := hs
    rw [State.engineStart_idle hr ht]
    refine ⟨fun _ => ?_, ?_, hbytes⟩
    · simp [hh, hlen, frameLen]
    · simpa [hr, hlen, frameLen] using hwhole

/-- SUBMIT of the frame keeps it: it starts a transfer of the frame, or leaves the engine. -/
theorem State.TransferFramed.submit {s : State} (hs : s.TransferFramed) (hw : s.config.WellFormed) {h : Handle}
    (hh : h = s.config.frameBase) : (s.submit h).TransferFramed := by
  rcases State.submit_cases s h with he | he <;> rw [he]
  · exact hs.engineStart hw hh
  · exact hs.congr (by simp) (by simp) (by simp) (by simp)

/-- CMP_ISR keeps it: it submits the frame. -/
theorem State.TransferFramed.compareHandler {s : State} (hs : s.TransferFramed) (hw : s.config.WellFormed) :
    s.compareHandler.TransferFramed := by
  rw [State.compareHandler_eq]
  exact State.TransferFramed.submit (hs.congr (by simp) (by simp) (by simp) (by simp)) (by simpa using hw) (by simp)

/-- TC_ISR keeps it when the queue holds the frame alone: it ends the transfer or starts the frame's next. -/
theorem State.TransferFramed.transferComplete {s : State} (hs : s.TransferFramed) (hw : s.config.WellFormed)
    (hi : s.QueueInv) (hq : ∀ h ∈ s.contents, h = s.config.frameBase) : s.transferComplete.TransferFramed := by
  by_cases hn : s.qCount = 0
  · rw [State.transferComplete_empty hn]; exact hs
  · have hhead : s.entry s.qHead ∈ s.contents := by
      rw [State.contents_dequeue (t := s.transferComplete) hn hi.2.1 (by simp) (by simp)
        (by simp [State.transferComplete_held hn]) (by simp [State.transferComplete_held hn])]
      exact List.mem_cons_self
    rw [State.transferComplete_held hn]
    exact State.TransferFramed.engineStart
      (s := { s with tcPend := false, qHead := (s.qHead + 1) % s.config.qcap, qCount := s.qCount - 1 }) hs hw (hq _ hhead)

/-- While a transfer of the frame is in flight, TX_PTR is at a byte of the frame, and that byte is one a frame holds there. -/
theorem State.TransferFramed.readByte_txPtr {s : State} (hs : s.TransferFramed) (hf : s.FrameInv) (hpos : 0 < s.txRem) :
    ∃ b, s.readByte s.txPtr.toNat = some b ∧ frameByteOk s.config (frameLen - s.txRem) b = true := by
  have hlt : frameLen - s.txRem < frameLen := by unfold frameLen; omega
  have hbyte := hf _ hlt
  rw [State.frame, ← hs.1 hpos, Option.any_eq_true] at hbyte
  exact hbyte

/-- A row of bytes that each fit a frame goes on with one that fits at the next offset. -/
theorem frameByteOk_append {c : Config} {out : List Byte} {b : Byte}
    (hout : ∀ (n : Nat) (x : Byte), out[n]? = some x → frameByteOk c (n % frameLen) x = true)
    (hb : frameByteOk c (out.length % frameLen) b = true) (n : Nat) (x : Byte) (h : (out ++ [b])[n]? = some x) :
    frameByteOk c (n % frameLen) x = true := by
  rcases Nat.lt_trichotomy n out.length with hlt | heq | hgt
  · exact hout n x (by rwa [List.getElem?_append_left hlt] at h)
  · subst heq
    obtain rfl : b = x := by simpa using h
    exact hb
  · have hpast : (out ++ [b])[n]? = none := List.getElem?_eq_none (by simp; omega)
    rw [hpast] at h; cases h

/-- ENGINE_BYTE keeps it: the byte moved is the frame's at the offset TXOUT has reached, and one byte less is left to move. -/
theorem State.TransferFramed.engineByte {s : State} (hs : s.TransferFramed) (hi : s.Inv) (hpos : 0 < s.txRem) :
    s.engineByte.TransferFramed := by
  obtain ⟨hw, -, ⟨-, -, -, -, hle⟩, -, hf, -⟩ := hi
  obtain ⟨-, -, -, -, -, hbase, hlen⟩ := (Config.wellFormed_iff _).1 hw
  obtain ⟨b, hread, hok⟩ := hs.readByte_txPtr hf hpos
  obtain ⟨hptr, hwhole, hbytes⟩ := hs
  have hat := hptr hpos
  rw [hlen] at hle
  have hoff : s.txOut.length % frameLen = (frameLen - s.txRem) := by unfold frameLen at *; omega
  rw [State.engineByte_inside hread]
  refine ⟨fun hleft => ?_, ?_, frameByteOk_append hbytes (by rwa [hoff])⟩
  · replace hleft : 0 < s.txRem - 1 := hleft
    have hnowrap : s.txPtr.toNat + 1 < 2 ^ 32 := by unfold frameLen at hat; omega
    show (s.txPtr + 1).toNat = s.config.frameBase.toNat + (frameLen - (s.txRem - 1))
    rw [BitVec.toNat_add_of_lt hnowrap, hat]
    unfold frameLen
    show _ + 1 = _
    omega
  · rw [List.length_append, List.length_singleton, ← hwhole]
    congr 1
    show s.txOut.length + 1 + (s.txRem - 1) = s.txOut.length + s.txRem
    omega

/-! ### Every system step keeps the output framed -/

/-- A system operation but RESET keeps the transfers whole and of the frame. -/
theorem effectOf_transferFramed {i : Instr} {s : State} (hs : s.OutputFramed) (he : enabled i s = true)
    (hsys : i.isUnit = false) (hr : i ≠ .reset) : (effectOf i s).TransferFramed := by
  obtain ⟨hi, hq, hf⟩ := s.outputFramed_iff.1 hs
  have ⟨hw, hqi, _⟩ := hi
  cases i
  case reset => exact absurd rfl hr
  case cmpIsr => exact hf.compareHandler hw
  case engineByte => exact hf.engineByte hi (by simpa [enabled] using he)
  case tcIsr => exact hf.transferComplete hw hqi hq
  case submit h => cases hsys
  case engineStart h => cases hsys
  all_goals exact hf.congr (by simp [effectOf]) (by simp [effectOf]) (by simp [effectOf]) (by simp [effectOf])

/-- A system operation but RESET queues no handle but the frame's: only CMP_ISR queues one. -/
theorem effectOf_queuesFrame {i : Instr} {s : State} (hi : s.Inv) (hq : ∀ h ∈ s.contents, h = s.config.frameBase)
    (he : enabled i s = true) (hsys : i.isUnit = false) (hr : i ≠ .reset) :
    ∀ h ∈ (effectOf i s).contents, h = s.config.frameBase := by
  obtain ⟨hw, hqi, -⟩ := hi
  rcases queueChangesOnlyAtItsEnds i s _ hqi (exec_next hw he) with hsame | ⟨x, happ, hby⟩ | ⟨x, htaken, -⟩ | ⟨hreset, -⟩
  · rwa [hsame]
  · have hx : x = s.config.frameBase := by
      rcases hby with rfl | rfl | ⟨-, hx⟩
      · cases hsys
      · cases hsys
      · exact hx
    rw [happ]
    intro h hm
    rcases List.mem_append.1 hm with hm | hm
    · exact hq h hm
    · exact (List.mem_singleton.1 hm).trans hx
  · exact fun h hm => hq h (htaken ▸ List.mem_cons_of_mem _ hm)
  · exact absurd hreset hr

/-- A system operation but RESET keeps the output framed. -/
theorem effectOf_outputFramed {i : Instr} {s : State} (hs : s.OutputFramed) (he : enabled i s = true)
    (hsys : i.isUnit = false) (hr : i ≠ .reset) : (effectOf i s).OutputFramed := by
  obtain ⟨hi, hq, -⟩ := s.outputFramed_iff.1 hs
  refine (State.outputFramed_iff _).2 ⟨effectOf_inv he hi, ?_, effectOf_transferFramed hs he hsys hr⟩
  rw [effectOf_config]
  exact effectOf_queuesFrame hi hq he hsys hr

/-- A clean launch satisfies the invariants: it differs from the launch state in nothing they read but the queue's entries. -/
theorem State.LaunchClean.inv {s : State} (h : s.LaunchClean) : s.Inv := by
  obtain ⟨hw, hlen, hs⟩ := h
  obtain ⟨-, ⟨-, hhead, hcount, htail⟩, hengine, htimer, hframe, hmem⟩ := launchSatisfiesTheInvariants s.config hw
  rw [hs]
  exact ⟨hw, ⟨hlen, hhead, hcount, htail⟩, hengine, htimer, hframe, hmem⟩

/-- A clean launch has an empty queue, no transfer in flight and nothing on the transport. -/
theorem State.LaunchClean.outputFramed {s : State} (h : s.LaunchClean) : s.OutputFramed := by
  refine s.outputFramed_iff.2 ⟨h.inv, ?_⟩
  obtain ⟨-, -, hs⟩ := h
  rw [hs]
  simp [State.contents, State.TransferFramed, State.launch]

/-- Settles O57: a system step runs a system operation, at the state that has taken its word. -/
theorem everySystemStepKeepsTheOutputFramed : Obligations.EverySystemStepKeepsTheOutputFramed := by
  refine ⟨fun s h => h.outputFramed, fun s t hs hsys hnr h => ?_⟩
  obtain ⟨-, w, ws, -, ⟨i, hop, he, rfl⟩ | ⟨hop, -⟩⟩ := step_effect h
  · have hunit : i.isUnit = false := by simpa [systemStep, hop] using hsys
    have hreset : i ≠ .reset := by simpa [noResetStep, hop] using hnr
    exact effectOf_outputFramed (s := { s with schedule := ws }) hs he hunit hreset
  · simp [systemStep, hop] at hsys

/-- Settles O41: the output is framed at a clean launch and along the run, and frames are eleven bytes long. -/
theorem everyTransmittedByteFitsTheFrame : Obligations.EveryTransmittedByteFitsTheFrame := by
  intro k s t hs hP hr
  obtain ⟨hlaunch, hkeeps⟩ := everySystemStepKeepsTheOutputFramed
  have ht : t.OutputFramed := runSteps_induction
    (fun u v hu hPu => by
      obtain ⟨hsys, hnr⟩ := Bool.and_eq_true_iff.1 hPu
      exact hkeeps u v hu hsys hnr)
    (hlaunch s hs) hP hr
  obtain ⟨-, -, -, -, hbytes⟩ := ht
  exact hbytes

end Sys2Proof.Machine

/-! The proofs of 40_bus_fsm.md: what BEGIN_READ and BUS_EVENT do in each position (R100-R108), the canonical transaction (R109),
recovery (R110), and the command trace on a well-behaved bus (R113). -/

namespace Sys2Proof.Machine

/-! ### The chain of positions and the commands of its moves -/

/-- The position that follows in a transaction, IDLE after the last (10_state.md R22, R23). -/
def TState.next : TState → TState
  | .idle => .awaitSb1
  | .awaitSb1 => .awaitAddrW
  | .awaitAddrW => .awaitBtf
  | .awaitBtf => .awaitSb2
  | .awaitSb2 => .awaitAddrR
  | .awaitAddrR => .awaitRxne
  | .awaitRxne => .idle

/-- The positions are numbered along the chain (30_encoding.md R77). -/
theorem TState.code_next (st : TState) : st.next.code.toNat = (st.code.toNat + 1) % 7 := by cases st <;> rfl

/-- The commands issued on the move out of a position, in a transaction that reads register `r` and receives `d`: BEGIN_READ's in
IDLE, elsewhere those of the position's row (R100, R102-R107). -/
def moveCommands (c : Config) (r d : Byte) : TState → List CmdCode
  | .idle => [0x0100#16]
  | .awaitSb1 => [0x03#8 ++ (c.devAddr.extractLsb' 0 7 ++ 0#1)]
  | .awaitAddrW => [0x0400#16, 0x03#8 ++ r]
  | .awaitBtf => [0x0100#16]
  | .awaitSb2 => [0x03#8 ++ (c.devAddr.extractLsb' 0 7 ++ 1#1), 0x0500#16]
  | .awaitAddrR => [0x0200#16]
  | .awaitRxne => [0x06#8 ++ d, 0x0200#16]

/-- A byte shifted left by one place, with a bit put in, is its low seven bits followed by that bit. -/
theorem shiftLeft_one_or_bit (x : Byte) (b : BitVec 1) : (x <<< 1) ||| b.setWidth 8 = x.extractLsb' 0 7 ++ b := by
  apply BitVec.eq_of_toNat_eq
  have hb : b.toNat % 2 ^ 8 = b.toNat := Nat.mod_eq_of_lt (b.isLt.trans (by decide))
  have hx : x.toNat * 2 ^ 1 % 2 ^ 8 = x.toNat % 2 ^ 7 * 2 ^ 1 := by omega
  simp only [BitVec.toNat_append, BitVec.toNat_or, BitVec.toNat_shiftLeft, BitVec.toNat_setWidth, BitVec.extractLsb'_toNat,
    Nat.shiftRight_zero, Nat.shiftLeft_eq, hb, hx]

/-- The address byte for writing is the 7-bit address followed by 0 (30_encoding.md R81). -/
theorem addrWrite_eq (c : Config) : addrWrite c = c.devAddr.extractLsb' 0 7 ++ 0#1 := shiftLeft_one_or_bit c.devAddr 0#1

/-- The address byte for reading is the 7-bit address followed by 1 (30_encoding.md R81). -/
theorem addrRead_eq (c : Config) : addrRead c = c.devAddr.extractLsb' 0 7 ++ 1#1 := shiftLeft_one_or_bit c.devAddr 1#1

/-- Outside the last position a move goes on with the commands of the transaction where the ones issued end (R109). -/
theorem canonicalCommands_take_next {st : TState} (h : st ≠ .awaitRxne) (c : Config) (r d : Byte) :
    (canonicalCommands c r 0).take (commandsIssued st.next) =
      (canonicalCommands c r 0).take (commandsIssued st) ++ moveCommands c r d st := by
  cases st
  case awaitRxne => exact absurd rfl h
  all_goals rfl

/-- The last move completes the ten commands, with the byte received (R107, R109). -/
theorem canonicalCommands_eq_take_append (c : Config) (r d : Byte) :
    canonicalCommands c r d =
      (canonicalCommands c r 0).take (commandsIssued .awaitRxne) ++ moveCommands c r d .awaitRxne := rfl

/-! ### What BUS_EVENT does -/

/-- A row is taken when the position expects a flag and the event asserts it (R101). -/
theorem rowTaken_iff {st : TState} {f : BitVec 4} :
    rowTaken st f = true ↔ ∃ g, expect st = some g ∧ g.setIn f = true := by
  unfold rowTaken
  cases expect st <;> simp

/-- The fallback appends STOP and goes to IDLE (R108). -/
theorem State.fallback_eq (s : State) :
    s.fallback = { s with busCmd := s.busCmd ++ [0x0200#16], tstate := .idle } := rfl

/-- A row issues the commands of its position, moves one place along the chain and, from the last place, latches the byte
(R102-R107). -/
theorem State.performRow_eq {s : State} (h : s.tstate ≠ .idle) (d : Byte) :
    s.performRow d = { s with
      busCmd := s.busCmd ++ moveCommands s.config s.curReg d s.tstate, tstate := s.tstate.next
      latX := if s.tstate = .awaitRxne ∧ s.curReg = s.config.regX then d else s.latX
      latY := if s.tstate = .awaitRxne ∧ s.curReg ≠ s.config.regX ∧ s.curReg = s.config.regY then d else s.latY } := by
  unfold State.performRow
  cases hst : s.tstate
  case idle => exact absurd hst h
  case awaitSb1 => simp [State.row1, State.emitCmd, BusCmd.code, addrWrite_eq, moveCommands, TState.next]
  case awaitAddrW => simp [State.row2, State.emitCmd, BusCmd.code, moveCommands, TState.next]
  case awaitBtf => simp [State.row3, State.emitCmd, BusCmd.code, moveCommands, TState.next]
  case awaitSb2 => simp [State.row4, State.emitCmd, BusCmd.code, addrRead_eq, moveCommands, TState.next]
  case awaitAddrR => simp [State.row5, State.emitCmd, BusCmd.code, moveCommands, TState.next]
  case awaitRxne => simp [State.row6_eq, BusCmd.code, moveCommands, TState.next]

/-- BUS_EVENT without the expected flag performs the fallback (R101). -/
theorem State.busEvent_of_not_rowTaken {s : State} {f : BitVec 4} (h : rowTaken s.tstate f = false) (d : Byte) :
    s.busEvent f d = s.fallback := by
  rw [State.busEvent_eq, h, if_neg Bool.false_ne_true]

/-- BUS_EVENT with the expected flag performs the row of its position (R101). -/
theorem State.busEvent_of_rowTaken {s : State} {f : BitVec 4} (h : rowTaken s.tstate f = true) (d : Byte) :
    s.busEvent f d = s.performRow d := by
  rw [State.busEvent_eq, if_pos h]

/-- A position that expects a flag is not IDLE. -/
theorem ne_idle_of_rowTaken {st : TState} {f : BitVec 4} (h : rowTaken st f = true) : st ≠ .idle := by
  rintro rfl
  cases h

/-- A bus event with the expected flag moves one place along the chain. -/
theorem State.busEvent_tstate_of_rowTaken {s : State} {f : BitVec 4} (h : rowTaken s.tstate f = true) (d : Byte) :
    (s.busEvent f d).tstate = s.tstate.next := by
  rw [State.busEvent_of_rowTaken h, State.performRow_eq (ne_idle_of_rowTaken h)]

/-- A bus event without the expected flag leads to IDLE. -/
theorem State.busEvent_tstate_of_not_rowTaken {s : State} {f : BitVec 4} (h : rowTaken s.tstate f = false) (d : Byte) :
    (s.busEvent f d).tstate = .idle := by
  rw [State.busEvent_of_not_rowTaken h, State.fallback_eq]

/-! ### The command trace -/

/-- The canonical trace depends on the configuration, TSTATE, CUR_REG and BUSCMD alone. -/
theorem State.CanonicalTrace.congr {s t : State} (hs : s.CanonicalTrace) (hc : t.config = s.config)
    (ht : t.tstate = s.tstate) (hr : t.curReg = s.curReg) (hb : t.busCmd = s.busCmd) : t.CanonicalTrace := by
  unfold State.CanonicalTrace
  rwa [hc, ht, hr, hb]

/-- A move along the chain keeps the trace canonical: its commands go on with the transaction in flight, and those of the last move
complete it. -/
theorem State.CanonicalTrace.move {s t : State} {d : Byte} (hs : s.CanonicalTrace) (hc : t.config = s.config)
    (haxis : t.curReg = s.config.regX ∨ t.curReg = s.config.regY) (hcur : s.tstate ≠ .idle → t.curReg = s.curReg)
    (ht : t.tstate = s.tstate.next) (hb : t.busCmd = s.busCmd ++ moveCommands s.config t.curReg d s.tstate) :
    t.CanonicalTrace := by
  obtain ⟨-, done, hdone, htrace⟩ := hs
  have hflight : (canonicalCommands s.config s.curReg 0).take (commandsIssued s.tstate) =
      (canonicalCommands s.config t.curReg 0).take (commandsIssued s.tstate) := by
    by_cases hidle : s.tstate = .idle
    · rw [hidle]; rfl
    · rw [hcur hidle]
  rw [htrace, hflight, List.append_assoc] at hb
  unfold State.CanonicalTrace
  rw [hc, ht, hb]
  refine ⟨fun _ => haxis, ?_⟩
  by_cases hlast : s.tstate = .awaitRxne
  · refine ⟨done ++ [(t.curReg, d)], fun p hp => ?_, ?_⟩
    · rcases List.mem_append.1 hp with hp | hp
      · exact hdone p hp
      · rwa [List.mem_singleton.1 hp]
    · rw [hlast, ← canonicalCommands_eq_take_append, List.flatMap_append, List.flatMap_singleton]
      exact (List.append_nil _).symm
  · exact ⟨done, hdone, by rw [canonicalCommands_take_next hlast]⟩

/-- BEGIN_READ of an axis in IDLE starts the next transaction. -/
theorem State.CanonicalTrace.beginRead {s : State} (hs : s.CanonicalTrace) (hidle : s.tstate = .idle) {r : Byte}
    (hr : r = s.config.regX ∨ r = s.config.regY) : (s.beginRead r).CanonicalTrace := by
  rw [State.beginRead_idle hidle]
  exact hs.move (d := 0) rfl hr (fun h => absurd hidle h) (by rw [hidle]; rfl) (by rw [hidle]; rfl)

/-- UPD_ISR in IDLE starts a transaction of the X axis. -/
theorem State.CanonicalTrace.updateHandler {s : State} (hs : s.CanonicalTrace) (hidle : s.tstate = .idle) :
    s.updateHandler.CanonicalTrace := by
  rw [State.updateHandler_eq]
  exact State.CanonicalTrace.beginRead (s := { s with updPend := false }) hs hidle (.inl rfl)

/-- CMP_ISR in IDLE starts a transaction of the Y axis; its SUBMIT leaves the bus. -/
theorem State.CanonicalTrace.compareHandler {s : State} (hs : s.CanonicalTrace) (hidle : s.tstate = .idle) :
    s.compareHandler.CanonicalTrace := by
  have hbegun : (({ s with cmpPend := false } : State).beginRead s.config.regY).CanonicalTrace :=
    State.CanonicalTrace.beginRead (s := { s with cmpPend := false }) hs hidle (.inr rfl)
  rw [State.compareHandler_eq]
  exact hbegun.congr (by simp) (by simp) (by simp) (by simp)

/-- A bus event with the expected flag goes on with the transaction in flight. -/
theorem State.CanonicalTrace.busEvent {s : State} (hs : s.CanonicalTrace) {f : BitVec 4}
    (hrow : rowTaken s.tstate f = true) (d : Byte) : (s.busEvent f d).CanonicalTrace := by
  have hflight : s.tstate ≠ .idle := ne_idle_of_rowTaken hrow
  rw [State.busEvent_of_rowTaken hrow, State.performRow_eq hflight]
  exact hs.move (d := d) rfl (hs.1 hflight) (fun _ => rfl) rfl rfl

/-- A flag is asserted in the vector that asserts it alone (30_encoding.md R78). -/
theorem BusFlag.setIn_only (g : BusFlag) : g.setIn g.only = true := by cases g <;> rfl

/-- On a well-behaved bus an event asserts the flag its position expects (R113). -/
theorem rowTaken_of_wellBehaved {s : State} {f : BitVec 4} {d : Byte} (hop : s.nextOp = some (.busEvent f d))
    (h : wellBehavedBusStep s = true) : rowTaken s.tstate f = true := by
  simp only [wellBehavedBusStep, hop] at h
  cases hg : expect s.tstate with
  | none => simp [hg] at h
  | some g =>
    obtain rfl : f = g.only := by simpa [hg] using h
    exact rowTaken_iff.2 ⟨g, hg, g.setIn_only⟩

/-- A clean launch has issued no command. -/
theorem State.LaunchClean.canonicalTrace {s : State} (h : s.LaunchClean) : s.CanonicalTrace := by
  obtain ⟨-, -, hs⟩ := h
  rw [hs]
  exact ⟨fun hne => absurd rfl hne, [], by simp, rfl⟩

/-- Settles O56: a timer handler starts a transaction in IDLE, a bus event moves the one in flight, and no other system operation
but RESET touches the bus. -/
theorem everyStepKeepsTheCommandTraceCanonical : Obligations.EveryStepKeepsTheCommandTraceCanonical := by
  refine ⟨fun s h => h.canonicalTrace, fun s t hs hsys hnr hbus hcomplete h => ?_⟩
  obtain ⟨-, w, ws, -, ⟨i, hop, -, rfl⟩ | ⟨hop, -⟩⟩ := step_effect h
  · have htaken : ({ s with schedule := ws } : State).CanonicalTrace := hs
    cases i
    case reset => simp [noResetStep, hop] at hnr
    case updIsr => exact htaken.updateHandler (by simpa [transactionsCompleteStep, hop] using hcomplete)
    case cmpIsr => exact htaken.compareHandler (by simpa [transactionsCompleteStep, hop] using hcomplete)
    case busEvent f d =>
      have hrow : rowTaken s.tstate f = true := rowTaken_of_wellBehaved hop hbus
      exact htaken.busEvent hrow d
    case timerStart | timerTick | engineByte | tcIsr =>
      exact htaken.congr (by simp [effectOf]) (by simp [effectOf]) (by simp [effectOf]) (by simp [effectOf])
    all_goals simp [systemStep, hop, Instr.isUnit] at hsys
  · simp [systemStep, hop] at hsys

/-- Settles O17: the trace is canonical at a clean launch and along the run. -/
theorem commandTraceIsCanonicalTransactions : Obligations.CommandTraceIsCanonicalTransactions := by
  intro k s t hs hP hr
  obtain ⟨hlaunch, hkeeps⟩ := everyStepKeepsTheCommandTraceCanonical
  have ht : t.CanonicalTrace := runSteps_induction
    (fun u v hu hPu => by
      simp only [Bool.and_eq_true] at hPu
      obtain ⟨⟨⟨hsys, hnr⟩, hbus⟩, hcomplete⟩ := hPu
      exact hkeeps u v hu hsys hnr hbus hcomplete)
    (hlaunch s hs) hP hr
  exact ht.2

/-! ### The two operations, state by state -/

/-- Settles O11: the word is the encoder's, and BEGIN_READ starts in IDLE and raises F_ORDER elsewhere. -/
theorem beginReadEffect : Obligations.BeginReadEffect := by
  refine ⟨fun r => decodeInvertsEncode (.beginRead r), fun s r hw => ?_⟩
  rw [exec_next hw rfl, effectOf]
  split
  · next hidle => rw [State.beginRead_idle hidle]
  · next hbusy => rw [State.beginRead_busy hbusy]

/-- BUS_EVENT in a position that expects flag `g`: the row where the event asserts it, the fallback where it does not (R101). -/
theorem State.busEvent_expecting {s : State} {g : BusFlag} (h : expect s.tstate = some g) (f : BitVec 4) (d : Byte) :
    s.busEvent f d = if f.getLsbD g.index = true then s.performRow d else s.fallback := by
  rw [State.busEvent_eq, rowTaken, h]
  rfl

/-- Settles O12: the word is the encoder's, and in each position the row or the fallback has its equation. -/
theorem busEventEffect : Obligations.BusEventEffect := by
  refine ⟨fun f d => decodeInvertsEncode (.busEvent f d), ?_⟩
  intro s f d hw fallback
  rw [exec_next hw rfl, effectOf]
  congr 1
  cases hst : s.tstate
  case idle => exact State.busEvent_of_not_rowTaken (by rw [hst]; rfl) d
  all_goals
    rw [State.busEvent_expecting (by rw [hst]; rfl), State.performRow_eq (by simp [hst])]
    simp [hst, fallback, State.fallback_eq, moveCommands, TState.next, BusFlag.index]

/-! ### Runs of bus events -/

/-- A scheduled operation is the next step of a run. -/
theorem runSteps_scheduled {s t : State} {i : Instr} {ws : List OpWord} (k : Nat) (hs : s.schedule = encode i :: ws)
    (he : exec i { s with schedule := ws } = .next t) : runSteps (k + 1) s = runSteps k t :=
  runSteps_cons k hs (decodeInvertsEncode i) he

/-- BUS_EVENT with the expected flag answers the row of its position. -/
theorem exec_busEvent_of_rowTaken {s : State} {f : BitVec 4} (hw : s.config.WellFormed)
    (hrow : rowTaken s.tstate f = true) (d : Byte) : exec (.busEvent f d) s = .next (s.performRow d) := by
  rw [exec_next hw rfl, effectOf, State.busEvent_of_rowTaken hrow]

/-- A scheduled bus event with the expected flag performs the row of its position. -/
theorem runSteps_row {s : State} {f : BitVec 4} {d : Byte} {ws : List OpWord} (k : Nat) (hw : s.config.WellFormed)
    (hs : s.schedule = encode (.busEvent f d) :: ws) (hrow : rowTaken s.tstate f = true) :
    runSteps (k + 1) s = runSteps k (({ s with schedule := ws } : State).performRow d) :=
  runSteps_scheduled k hs (exec_busEvent_of_rowTaken (s := { s with schedule := ws }) hw hrow d)

/-- Settles O13: BEGIN_READ and the six rows, one step each. -/
theorem canonicalTransactionLatchesTheReading : Obligations.CanonicalTransactionLatchesTheReading := by
  intro s r d rest hw hidle hs
  have hbegin := beginReadEffect.2 { s with schedule := scheduleOf (Instr.xact d) ++ rest } r hw
  rw [if_pos hidle] at hbegin
  calc runSteps 7 s = runSteps 6 _ := runSteps_scheduled 6 hs hbegin
    _ = runSteps 5 _ := runSteps_row 5 hw rfl rfl
    _ = runSteps 4 _ := runSteps_row 4 hw rfl rfl
    _ = runSteps 3 _ := runSteps_row 3 hw rfl rfl
    _ = runSteps 2 _ := runSteps_row 2 hw rfl rfl
    _ = runSteps 1 _ := runSteps_row 1 hw rfl rfl
    _ = runSteps 0 _ := runSteps_row 0 hw rfl rfl
    _ = .next _ := by simp [State.performRow_eq, moveCommands, TState.next]

/-- How many moves along the chain lead from a position to IDLE. -/
def movesToIdle (st : TState) : Nat := (7 - st.code.toNat) % 7

theorem movesToIdle_le (st : TState) : movesToIdle st ≤ 6 := by cases st <;> decide

theorem movesToIdle_eq_zero {st : TState} : movesToIdle st = 0 ↔ st = .idle := by cases st <;> decide

theorem movesToIdle_next {st : TState} (h : st ≠ .idle) : movesToIdle st.next + 1 = movesToIdle st := by
  cases st
  case idle => exact absurd rfl h
  all_goals rfl

/-- Every bus event brings a position outside IDLE nearer to it. -/
theorem State.busEvent_movesToIdle {s : State} (h : s.tstate ≠ .idle) (f : BitVec 4) (d : Byte) :
    movesToIdle (s.busEvent f d).tstate < movesToIdle s.tstate := by
  cases hrow : rowTaken s.tstate f with
  | true =>
    rw [State.busEvent_tstate_of_rowTaken hrow, ← movesToIdle_next h]
    exact Nat.lt_succ_self _
  | false =>
    rw [State.busEvent_tstate_of_not_rowTaken hrow, movesToIdle_eq_zero.2 rfl, ← movesToIdle_next h]
    exact Nat.succ_pos _

/-- A scheduled bus event outside IDLE leads nearer to it; it leaves FAULT and the configuration, and its word is taken. -/
theorem runSteps_busEvent {s : State} {f : BitVec 4} {d : Byte} {ws : List OpWord} (hw : s.config.WellFormed)
    (hs : s.schedule = encode (.busEvent f d) :: ws) (hidle : s.tstate ≠ .idle) :
    ∃ u : State, (∀ k, runSteps (k + 1) s = runSteps k u) ∧ u.config = s.config ∧ u.schedule = ws ∧ u.fault = s.fault ∧
      movesToIdle u.tstate < movesToIdle s.tstate :=
  ⟨({ s with schedule := ws } : State).busEvent f d, fun k => runSteps_scheduled k hs (exec_next hw rfl), by simp, by simp,
    by simp, State.busEvent_movesToIdle (s := { s with schedule := ws }) hidle f d⟩

/-- Bus events as many as the moves to IDLE, whatever they are, lead there, and FAULT stays. -/
theorem busEvents_reach_idle (events : List (BitVec 4 × Byte)) {s : State} {rest : List OpWord} (hw : s.config.WellFormed)
    (hlen : movesToIdle s.tstate ≤ events.length)
    (hs : s.schedule = scheduleOf (events.map fun e => .busEvent e.1 e.2) ++ rest) :
    ∃ k ≤ events.length, ∃ t, runSteps k s = .next t ∧ t.tstate = .idle ∧ t.fault = s.fault := by
  induction events generalizing s with
  | nil => exact ⟨0, Nat.le_refl 0, s, rfl, movesToIdle_eq_zero.1 (Nat.le_zero.1 hlen), rfl⟩
  | cons e events ih =>
    by_cases hidle : s.tstate = .idle
    · exact ⟨0, Nat.zero_le _, s, rfl, hidle, rfl⟩
    · obtain ⟨u, hstep, hconfig, hschedule, hfault, hnearer⟩ := runSteps_busEvent hw hs hidle
      have hleft : movesToIdle u.tstate ≤ events.length := Nat.le_of_lt_succ (Nat.lt_of_lt_of_le hnearer hlen)
      obtain ⟨k, hk, t, hrun, ht, hkept⟩ := ih (hconfig ▸ hw) hleft hschedule
      exact ⟨k + 1, Nat.succ_le_succ hk, t, (hstep k).trans hrun, ht, hkept.trans hfault⟩

/-- Settles O14: the fallback leads to IDLE, a row moves one place, and each is a move nearer to IDLE, which is at most six away. -/
theorem sixBusEventsReachIdle : Obligations.SixBusEventsReachIdle := by
  refine ⟨fun s f d hw hno => ⟨_, exec_next hw rfl, State.busEvent_fault s f d, ?_⟩,
    fun s f d g hw hexp hset => ⟨_, exec_next hw rfl, State.busEvent_fault s f d, ?_⟩,
    fun s events rest hw hlen hs => ?_⟩
  · have hrow : rowTaken s.tstate f = false := by
      rw [Bool.eq_false_iff, Ne, rowTaken_iff]
      rintro ⟨g, hexp, hset⟩
      rw [hno g hexp] at hset
      cases hset
    exact State.busEvent_tstate_of_not_rowTaken hrow d
  · rw [effectOf, State.busEvent_tstate_of_rowTaken (rowTaken_iff.2 ⟨g, hexp, hset⟩)]
    exact s.tstate.code_next
  · rw [← hlen]
    exact busEvents_reach_idle events hw (hlen ▸ movesToIdle_le _) hs

end Sys2Proof.Machine

/-! The proofs of 41_scheduler.md: the timer and its two handlers, state by state (R130-R134), the schedule of the timer's events
(R132, R136), and the one-cycle lag of the readings (R137). -/

namespace Sys2Proof.Machine

/-! ### The four operations, state by state -/

/-- Settles O18: the word is the encoder's, and TIMER_START is its equation. -/
theorem timerStartEffect : Obligations.TimerStartEffect := by
  refine ⟨decodeInvertsEncode .timerStart, fun s hw => ?_⟩
  rw [exec_next hw rfl, effectOf, State.timerStart_eq]
  cases s.config.timerInitUpdate <;> simp

/-- Settles O19: the rollover and the ticks within the period, where the counter does not truncate. -/
theorem timerTickEffect : Obligations.TimerTickEffect := by
  refine ⟨decodeInvertsEncode .timerTick, fun s hw hen hi => ?_⟩
  have hle : s.cnt ≤ s.config.period - 1 := hi
  rw [exec_next (i := .timerTick) hw hen, effectOf]
  split
  · next hroll => rw [State.timerTick_rollover hroll]
  · next hwithin =>
    rw [State.timerTick_within hwithin, nextCount_eq hw (by omega)]
    by_cases hcmp : s.cnt + 1 = s.config.cmp <;> simp [hcmp]

/-- What every address reads as after FORMAT, in the words of the rule (42_formatter.md R150). -/
theorem State.readByte_format_eq_fieldAfter (s : State) (ax : Axis) (v : Byte) (a : Nat) :
    (s.format ax v).readByte a = s.fieldAfter (fieldOffset ax) v a := by
  rw [State.readByte_format, digitBytes_eq, State.fieldAfter]
  generalize s.config.frameBase.toNat + fieldOffset ax = base
  split
  · next hge =>
    obtain ⟨k, rfl⟩ := Nat.exists_eq_add_of_le hge
    rw [Nat.add_sub_cancel_left]
    rcases k with _ | _ | _ | k
    case succ.succ.succ => simp
    all_goals simp
  · rw [if_neg (by omega), if_neg (by omega), if_neg (by omega)]

/-- The memory FORMAT leaves, read in a state with any other registers. -/
theorem State.readByte_withFormat (s : State) (ax : Axis) (v : Byte) (a : Nat) :
    ({ s with mem := (s.format ax v).mem } : State).readByte a = s.fieldAfter (fieldOffset ax) v a := by
  rw [← State.format_frame, State.readByte_format_eq_fieldAfter]

/-- Settles O21: BEGIN_READ starts the X read in IDLE and raises F_ORDER elsewhere, and memory is FORMAT's in either case. -/
theorem updateHandlerEffect : Obligations.UpdateHandlerEffect := by
  refine ⟨decodeInvertsEncode .updIsr, fun s hw hen => ⟨(s.format .x s.latX).mem, s.readByte_withFormat .x s.latX, ?_⟩⟩
  rw [exec_next (i := .updIsr) hw hen, effectOf, State.updateHandler_eq]
  split
  · next hidle => rw [State.beginRead_idle (s := { s with updPend := false }) hidle]
  · next hbusy => rw [State.beginRead_busy (s := { s with updPend := false }) hbusy]

/-- SUBMIT under the engine's invariants: a transfer starts on an Idle engine with no completion unconsumed; otherwise the handle
is queued, or dropped when the queue is full (43_queue_dispatch.md R160, R163, R164). -/
theorem State.submit_eq {s : State} (hi : s.EngineInv) (h : Handle) :
    s.submit h =
      if s.engBusy = false ∧ s.tcPend = false then { s with engBusy := true, txPtr := h, txRem := s.config.txLen }
      else if s.qCount = s.config.qcap then s
      else { s with q := s.q.set s.qTail h, qTail := (s.qTail + 1) % s.config.qcap, qCount := s.qCount + 1 } := by
  obtain ⟨-, -, hidle, -⟩ := hi
  split
  · next hfree =>
    obtain ⟨hb, ht⟩ := hfree
    rw [State.submit_idle hb ht, State.engineStart_idle (hidle hb).1 ht]
  · next hbusy =>
    rw [State.submit_busy (by simpa [or_iff_not_imp_left] using hbusy)]
    split
    · next hfull => exact State.enqueue_full hfull h
    · next hroom => exact State.enqueue_room hroom h

/-- Settles O22: BEGIN_READ as in UPD_ISR, and then SUBMIT on the state it leaves, whose queue and engine are those before. -/
theorem compareHandlerEffect : Obligations.CompareHandlerEffect := by
  refine ⟨decodeInvertsEncode .cmpIsr, fun s hw hi hen => ⟨(s.format .y s.latY).mem, s.readByte_withFormat .y s.latY, ?_⟩⟩
  intro read
  rw [exec_next (i := .cmpIsr) hw hen, effectOf, State.compareHandler_eq]
  by_cases hidle : s.tstate = .idle
  · simp only [read, if_pos hidle]
    rw [State.beginRead_idle (s := { s with cmpPend := false }) hidle]
    exact congrArg Host.Outcome.next (State.submit_eq (by exact hi) _)
  · simp only [read, if_neg hidle]
    rw [State.beginRead_busy (s := { s with cmpPend := false }) hidle]
    exact congrArg Host.Outcome.next (State.submit_eq (by exact hi) _)

/-! ### Runs of scheduled operations -/

/-- The next word is taken from the schedule and its operation performed. -/
def State.taking (s : State) (i : Instr) : State := effectOf i { s with schedule := s.schedule.tail }

@[simp] theorem State.taking_config (s : State) (i : Instr) : (s.taking i).config = s.config := effectOf_config ..

@[simp] theorem State.taking_schedule (s : State) (i : Instr) : (s.taking i).schedule = s.schedule.tail :=
  effectOf_schedule ..

/-- The state that operations leave when each takes its word, one after the other. -/
def afterOps (ops : List Instr) (s : State) : State := ops.foldl State.taking s

@[simp] theorem afterOps_nil (s : State) : afterOps [] s = s := rfl

@[simp] theorem afterOps_cons (i : Instr) (ops : List Instr) (s : State) :
    afterOps (i :: ops) s = afterOps ops (s.taking i) := rfl

@[simp] theorem afterOps_append (ops ops' : List Instr) (s : State) :
    afterOps (ops ++ ops') s = afterOps ops' (afterOps ops s) := List.foldl_append

@[simp] theorem afterOps_config (ops : List Instr) (s : State) : (afterOps ops s).config = s.config := by
  induction ops generalizing s with
  | nil => rfl
  | cons i ops ih => rw [afterOps_cons, ih, State.taking_config]

/-- Operations take as many words as they are. -/
theorem afterOps_schedule {ops : List Instr} {s : State} {rest : List OpWord} (hs : s.schedule = scheduleOf ops ++ rest) :
    (afterOps ops s).schedule = rest := by
  induction ops generalizing s with
  | nil => exact hs
  | cons i ops ih => exact ih (by rw [State.taking_schedule, hs]; rfl)

/-- Each operation is enabled when its turn comes (30_encoding.md R76). -/
def EnabledInTurn : List Instr → State → Prop
  | [], _ => True
  | i :: ops, s => enabled i s = true ∧ EnabledInTurn ops (s.taking i)

@[simp] theorem enabledInTurn_nil (s : State) : EnabledInTurn [] s := trivial

@[simp] theorem enabledInTurn_cons {i : Instr} {ops : List Instr} {s : State} :
    EnabledInTurn (i :: ops) s ↔ enabled i s = true ∧ EnabledInTurn ops (s.taking i) := Iff.rfl

@[simp] theorem enabledInTurn_append {ops ops' : List Instr} {s : State} :
    EnabledInTurn (ops ++ ops') s ↔ EnabledInTurn ops s ∧ EnabledInTurn ops' (afterOps ops s) := by
  induction ops generalizing s with
  | nil => simp
  | cons i ops ih => simp [ih, and_assoc]

/-- Whether an operation is enabled does not depend on the schedule. -/
theorem enabled_withSchedule (i : Instr) (s : State) (ws : List OpWord) :
    enabled i { s with schedule := ws } = enabled i s := by
  cases i <;> rfl

/-- Scheduled operations, each enabled in its turn, are a run. -/
theorem runSteps_afterOps {ops : List Instr} {s : State} {rest : List OpWord} (hw : s.config.WellFormed)
    (hs : s.schedule = scheduleOf ops ++ rest) (hen : EnabledInTurn ops s) :
    runSteps ops.length s = .next (afterOps ops s) := by
  induction ops generalizing s with
  | nil => rfl
  | cons i ops ih =>
    obtain ⟨hi, hops⟩ := hen
    have htail : s.schedule.tail = scheduleOf ops ++ rest := by rw [hs]; rfl
    have hstep : exec i { s with schedule := s.schedule.tail } = .next (s.taking i) :=
      exec_next hw (by rw [enabled_withSchedule, hi])
    rw [List.length_cons, runSteps_scheduled ops.length (by rw [hs]; rfl) hstep]
    exact ih (by rwa [State.taking_config]) (by rw [State.taking_schedule, htail]) hops

/-- A run of scheduled operations ends in the state they leave, and a run of at least one has a well-formed configuration. -/
theorem eq_afterOps_of_runSteps {ops : List Instr} {s t : State} {rest : List OpWord}
    (hs : s.schedule = scheduleOf ops ++ rest) (hr : runSteps ops.length s = .next t) :
    (ops ≠ [] → s.config.WellFormed) ∧ t = afterOps ops s := by
  induction ops generalizing s with
  | nil => cases hr; exact ⟨fun h => absurd rfl h, rfl⟩
  | cons i ops ih =>
    obtain ⟨u, hu, hrest⟩ := runSteps_succ_inv hr
    have htail : s.schedule.tail = scheduleOf ops ++ rest := by rw [hs]; rfl
    rw [step_cons (w := encode i) (ws := s.schedule.tail) (by rw [hs]; rfl), decodeInvertsEncode] at hu
    obtain ⟨hw, -, rfl⟩ := exec_eq_next.1 hu
    exact ⟨fun _ => hw, (ih (s := s.taking i) (by rw [State.taking_schedule, htail]) hrest).2⟩

/-! ### The timer's events -/

/-- A tick counts modulo P_PERIOD and raises the event of the place it reaches: the update event at 0, the compare event at P_CMP
(R131). -/
theorem State.timerTick_eq {s : State} (hw : s.config.WellFormed) (hi : s.TimerInv) :
    s.timerTick = { s with
      cnt := (s.cnt + 1) % s.config.period
      updPend := s.updPend || decide ((s.cnt + 1) % s.config.period = 0)
      cmpPend := s.cmpPend || decide ((s.cnt + 1) % s.config.period = s.config.cmp) } := by
  obtain ⟨-, ⟨hperiod, -⟩, ⟨hcmp, -⟩, -⟩ := (Config.wellFormed_iff _).1 hw
  have hle : s.cnt ≤ s.config.period - 1 := hi
  by_cases hroll : s.cnt = s.config.period - 1
  · have hmod : (s.cnt + 1) % s.config.period = 0 := by
      rw [hroll, Nat.sub_add_cancel (by omega), Nat.mod_self]
    rw [State.timerTick_rollover hroll]
    simp only [hmod, decide_true, Bool.or_true, (Nat.ne_of_gt hcmp).symm, decide_false, Bool.or_false]
  · have hmod : (s.cnt + 1) % s.config.period = s.cnt + 1 := Nat.mod_eq_of_lt (by omega)
    rw [State.timerTick_within hroll, nextCount_eq hw (by omega)]
    simp [hmod]

/-- Whether one of `n` ticks from CNT = `start` reaches a place of the period. -/
def ticksReach (c : Config) (start n place : Nat) : Bool :=
  (List.range n).any fun m => decide ((start + m + 1) % c.period = place)

theorem ticksReach_iff {c : Config} {start n place : Nat} :
    ticksReach c start n place = true ↔ ∃ m < n, (start + m + 1) % c.period = place := by
  simp [ticksReach]

theorem ticksReach_succ (c : Config) (start n place : Nat) :
    ticksReach c start (n + 1) place =
      (ticksReach c start n place || decide ((start + n + 1) % c.period = place)) := by
  simp [ticksReach, List.range_succ]

/-- What some ticks do: they count modulo P_PERIOD and raise the events of the places they reach. -/
theorem afterOps_ticks {s : State} (hw : s.config.WellFormed) (hi : s.TimerInv) (n : Nat) :
    afterOps (Instr.ticks n) s = { s with
      schedule := s.schedule.drop n
      cnt := (s.cnt + n) % s.config.period
      updPend := s.updPend || ticksReach s.config s.cnt n 0
      cmpPend := s.cmpPend || ticksReach s.config s.cnt n s.config.cmp } := by
  obtain ⟨-, ⟨hperiod, -⟩, -⟩ := (Config.wellFormed_iff _).1 hw
  have hle : s.cnt ≤ s.config.period - 1 := hi
  induction n with
  | zero => simp [Instr.ticks, ticksReach, Nat.mod_eq_of_lt (show s.cnt < s.config.period by omega)]
  | succ n ih =>
    have hlt : (s.cnt + n) % s.config.period ≤ s.config.period - 1 :=
      Nat.le_sub_one_of_lt (Nat.mod_lt _ (by omega))
    rw [show Instr.ticks (n + 1) = Instr.ticks n ++ [.timerTick] from List.replicate_succ', afterOps_append, ih,
      afterOps_cons, afterOps_nil, State.taking, effectOf, State.timerTick_eq]
    · simp [ticksReach_succ, Bool.or_assoc, Nat.add_assoc]
    · exact hw
    · exact hlt

/-- Ticks are enabled while the timer runs: no tick stops it. -/
theorem enabledInTurn_ticks {s : State} (hen : s.timEn = true) (n : Nat) : EnabledInTurn (Instr.ticks n) s := by
  induction n generalizing s with
  | zero => trivial
  | succ n ih => exact ⟨hen, ih (by simpa [State.taking, effectOf] using hen)⟩

/-- TIMER_START and some ticks, from CNT = 0 with no initial update event: the events are those the ticks reach. -/
theorem afterOps_start_ticks {s : State} (hw : s.config.WellFormed) (hinit : s.config.timerInitUpdate = false)
    (hcnt : s.cnt = 0) (n : Nat) :
    afterOps (.timerStart :: Instr.ticks n) s = { s with
      schedule := s.schedule.drop (n + 1), timEn := true
      cnt := n % s.config.period
      updPend := s.updPend || ticksReach s.config 0 n 0
      cmpPend := s.cmpPend || ticksReach s.config 0 n s.config.cmp } := by
  rw [afterOps_cons, State.taking, effectOf, State.timerStart_eq, afterOps_ticks]
  · simp [hinit, hcnt]
  · exact hw
  · exact hcnt ▸ Nat.zero_le _

/-- TIMER_START and some ticks are a run. -/
theorem runSteps_start_ticks {s : State} {n : Nat} {rest : List OpWord} (hw : s.config.WellFormed)
    (hs : s.schedule = scheduleOf (.timerStart :: Instr.ticks n) ++ rest) :
    runSteps (n + 1) s = .next (afterOps (.timerStart :: Instr.ticks n) s) := by
  have hrun := runSteps_afterOps hw hs
    ⟨rfl, enabledInTurn_ticks (by simp [State.taking, effectOf, State.timerStart_eq]) n⟩
  rwa [List.length_cons, show (Instr.ticks n).length = n from List.length_replicate] at hrun

/-- The numbers from 1 that leave a remainder, listed. -/
theorem succ_mod_eq_iff {n p c : Nat} (hc : c < p) : (n + 1) % p = c ↔ ∃ j, n + 1 = c + j * p := by
  constructor
  · rintro rfl
    exact ⟨(n + 1) / p, (Nat.mod_add_div' ..).symm⟩
  · rintro ⟨j, hj⟩
    rw [hj, Nat.add_mul_mod_self_right, Nat.mod_eq_of_lt hc]

/-- Settles O20: after `n` ticks CNT is `n` modulo P_PERIOD, so tick `n + 1` reaches place `n + 1` of it. -/
theorem timerEventSchedule : Obligations.TimerEventSchedule := by
  intro s n rest hw hinit hcnt hs
  obtain ⟨-, ⟨hperiod, -⟩, ⟨-, hcmp⟩, -⟩ := (Config.wellFormed_iff _).1 hw
  refine ⟨_, runSteps_start_ticks hw hs, afterOps_schedule hs, ?_⟩
  rw [afterOps_start_ticks hw hinit hcnt]
  refine ⟨_, exec_next hw rfl, ?_⟩
  have hlt : n % s.config.period ≤ s.config.period - 1 := Nat.le_sub_one_of_lt (Nat.mod_lt _ (by omega))
  rw [effectOf, State.timerTick_eq (by exact hw) (by exact hlt)]
  simp only [Bool.false_or, decide_eq_true_eq, Nat.mod_add_mod]
  constructor
  · rw [succ_mod_eq_iff (by omega)]
    exact ⟨fun ⟨j, hj⟩ => ⟨j + 1, by omega, hj⟩, fun ⟨k, _, hk⟩ => ⟨k - 1, hk⟩⟩
  · rw [succ_mod_eq_iff (by omega)]
    constructor
    · rintro ⟨j, hj⟩
      refine ⟨j, Nat.pos_of_ne_zero ?_, by omega⟩
      rintro rfl
      omega
    · exact fun ⟨k, _, hk⟩ => ⟨k, by omega⟩

/-! ### The first event -/

/-- Ticks that do not roll over reach the places after their start, up to their count. -/
theorem ticksReach_of_lt {c : Config} {start n : Nat} (h : start + n < c.period) (place : Nat) :
    ticksReach c start n place = decide (start < place ∧ place ≤ start + n) := by
  rw [Bool.eq_iff_iff, ticksReach_iff, decide_eq_true_eq]
  constructor
  · rintro ⟨m, hm, rfl⟩
    rw [Nat.mod_eq_of_lt (by omega)]
    omega
  · exact fun ⟨hlo, hhi⟩ => ⟨place - start - 1, by omega, by rw [Nat.mod_eq_of_lt (by omega)]; omega⟩

/-- CMP_ISR with the bus in IDLE and the engine free starts the Y read and a transfer of the frame (R134). -/
theorem State.compareHandler_idle {s : State} (hidle : s.tstate = .idle) (hb : s.engBusy = false) (ht : s.tcPend = false)
    (hr : s.txRem = 0) :
    s.compareHandler = { s with
      cmpPend := false, mem := (s.format .y s.latY).mem
      curReg := s.config.regY, busCmd := s.busCmd ++ [0x0100#16], tstate := .awaitSb1
      engBusy := true, txPtr := s.config.frameBase, txRem := s.config.txLen } := by
  rw [State.compareHandler_eq, State.beginRead_idle (s := { s with cmpPend := false }) hidle,
    State.submit_idle (by exact hb) (by exact ht), State.engineStart_idle (by exact hr) (by exact ht)]

/-- The frame after FORMAT: the digits in the axis's field, and the frame before elsewhere (42_formatter.md R150, R152). -/
theorem State.frame_format (s : State) (ax : Axis) (v : Byte) (i : Nat) :
    (s.format ax v).frame i =
      if fieldOffset ax ≤ i then ((digitBytes v)[i - fieldOffset ax]?).or (s.frame i) else s.frame i := by
  simp only [State.frame, State.readByte_format, State.format_config, Nat.add_le_add_iff_left, Nat.add_sub_add_left]

/-- The frame depends on the configuration and memory alone. -/
theorem State.frame_congr {s t : State} (hc : t.config = s.config) (hm : t.mem = s.mem) (i : Nat) :
    t.frame i = s.frame i := by
  rw [State.frame, State.frame, hc, State.readByte_congr hc hm]

/-- The digits of 0 are those the reset content has in both fields. -/
theorem State.frame_format_zero {s : State} (hs : ∀ i, s.frame i = (frameInit s.config)[i]?) (ax : Axis) {i : Nat}
    (hi : i < 11) : (s.format ax 0).frame i = (frameInit s.config)[i]? := by
  rw [State.frame_format, hs, digitBytes_eq]
  cases ax <;> interval_cases i <;> rfl

/-- CMP_ISR with LAT_Y = 0 keeps a frame that holds its reset content. -/
theorem State.frame_compareHandler_zero {s : State} (hs : ∀ i, s.frame i = (frameInit s.config)[i]?) (hlat : s.latY = 0)
    {i : Nat} (hi : i < 11) : s.compareHandler.frame i = (frameInit s.config)[i]? := by
  rw [← State.frame_format_zero hs .y hi, ← hlat]
  exact State.frame_congr (by simp) (by simp) i

/-- A clean launch holds the reset content in the frame. -/
theorem State.LaunchClean.frame {s : State} (h : s.LaunchClean) (i : Nat) : s.frame i = (frameInit s.config)[i]? := by
  obtain ⟨-, -, hs⟩ := h
  have hm : s.mem = [] := congrArg State.mem hs
  rw [← State.frame_launch]
  exact State.frame_congr (t := s) (s := State.launch s.config) rfl hm i

theorem scheduleOf_append (ops ops' : List Instr) : scheduleOf (ops ++ ops') = scheduleOf ops ++ scheduleOf ops' :=
  List.map_append

theorem Instr.ticks_add (m n : Nat) : Instr.ticks (m + n) = Instr.ticks m ++ Instr.ticks n :=
  List.replicate_add ..

/-- A clean launch after TIMER_START and P_CMP ticks, with no initial update event: the compare event alone is pending. -/
theorem State.LaunchClean.afterOps_cmp {s : State} (h : s.LaunchClean) (hinit : s.config.timerInitUpdate = false) :
    afterOps (.timerStart :: Instr.ticks s.config.cmp) s = { s with
      schedule := s.schedule.drop (s.config.cmp + 1), timEn := true, cnt := s.config.cmp, cmpPend := true } := by
  obtain ⟨hw, -, hreset⟩ := h
  obtain ⟨-, -, ⟨hpos, hcmp⟩, -⟩ := (Config.wellFormed_iff _).1 hw
  have hmod : s.config.cmp % s.config.period = s.config.cmp := Nat.mod_eq_of_lt (by omega)
  have hpos' : 0 < s.config.cmp := hpos
  rw [afterOps_start_ticks hw hinit (congrArg State.cnt hreset), ticksReach_of_lt (by omega), ticksReach_of_lt (by omega),
    hmod]
  simp [hpos']

/-- Settles O24: the first tick to reach an event's place is tick P_CMP, and its handler finds the bus and the engine idle, and
LAT_Y and the frame as RESET left them. -/
theorem firstCompareSubmitsTheResetFrame : Obligations.FirstCompareSubmitsTheResetFrame := by
  intro s rest hs hinit hsched
  have ⟨hw, _, hreset⟩ := hs
  obtain ⟨-, -, ⟨-, hcmp⟩, -, -, -, hlen⟩ := (Config.wellFormed_iff _).1 hw
  refine ⟨fun n hn => ?_, ?_⟩
  · obtain ⟨k, hk⟩ := Nat.exists_eq_add_of_lt hn
    have hsched_split : s.schedule = scheduleOf (.timerStart :: Instr.ticks n) ++
        (scheduleOf (Instr.ticks (k + 1) ++ [.cmpIsr]) ++ rest) := by
      rw [hsched, hk, Nat.add_assoc, Instr.ticks_add]
      simp [scheduleOf]
    have hupd : s.updPend = false := congrArg State.updPend hreset
    have hcmpPend : s.cmpPend = false := congrArg State.cmpPend hreset
    refine ⟨_, runSteps_start_ticks hw hsched_split, ?_⟩
    rw [afterOps_start_ticks hw hinit (congrArg State.cnt hreset), ticksReach_of_lt (by omega),
      ticksReach_of_lt (by omega)]
    simp [hupd, hcmpPend, hn]
  · have hu := State.LaunchClean.afterOps_cmp hs hinit
    have hen : EnabledInTurn (.timerStart :: Instr.ticks s.config.cmp ++ [.cmpIsr]) s := by
      rw [enabledInTurn_append, hu]
      exact ⟨⟨rfl, enabledInTurn_ticks (by simp [State.taking, effectOf, State.timerStart_eq]) _⟩, rfl, trivial⟩
    have hrun := runSteps_afterOps hw hsched hen
    have hcount : (Instr.timerStart :: Instr.ticks s.config.cmp ++ [Instr.cmpIsr]).length = s.config.cmp + 2 := by
      simp [Instr.ticks]
    have hframe : ∀ i < 11, (afterOps (.timerStart :: Instr.ticks s.config.cmp ++ [.cmpIsr]) s).frame i =
        (frameInit s.config)[i]? := by
      intro i hi
      rw [afterOps_append, hu]
      exact State.frame_compareHandler_zero (by exact hs.frame) (by exact congrArg State.latY hreset) hi
    rw [hcount] at hrun
    refine ⟨_, hrun, afterOps_schedule hsched, ?_⟩
    rw [afterOps_append, hu, afterOps_cons, afterOps_nil, State.taking, effectOf,
      State.compareHandler_idle (by exact congrArg State.tstate hreset) (by exact congrArg State.engBusy hreset)
        (by exact congrArg State.tcPend hreset) (by exact congrArg State.txRem hreset)] at hframe ⊢
    exact ⟨congrArg State.updPend hreset, rfl, rfl, rfl, congrArg (· ++ [0x0100#16]) (congrArg State.busCmd hreset),
      rfl, rfl, hlen, congrArg State.qCount hreset, congrArg State.fault hreset, hframe⟩

/-! ### What the steps between two handlers do to a reading -/

/-- The steps that may stand between two handlers. -/
theorem cases_of_between {i : Instr} (hi : opcodeOf i ∈ [.timerStart, .timerTick, .busEvent, .engineByte, .tcIsr]) :
    (∃ f d, i = .busEvent f d) ∨ i = .timerStart ∨ i = .timerTick ∨ i = .engineByte ∨ i = .tcIsr := by
  cases i <;> simp [opcodeOf] at hi ⊢

/-- Where a reading stands: the position, the register read and the latches. -/
def State.SameReading (t s : State) : Prop :=
  t.tstate = s.tstate ∧ t.curReg = s.curReg ∧ t.latX = s.latX ∧ t.latY = s.latY

/-- Between two handlers a step other than a bus event leaves where the reading stands, and is no bus event of the list. -/
theorem between_cases {i : Instr} (hi : opcodeOf i ∈ [.timerStart, .timerTick, .busEvent, .engineByte, .tcIsr]) (s : State) :
    (∃ f d, i = .busEvent f d) ∨ ((s.taking i).SameReading s ∧ ∀ ops, busEventsIn (i :: ops) = busEventsIn ops) := by
  rcases cases_of_between hi with h | rfl | rfl | rfl | rfl
  case inl => exact .inl h
  all_goals exact .inr ⟨by simp [State.SameReading, State.taking, effectOf], fun _ => rfl⟩

/-- Between two handlers no step writes memory or CUR_REG. -/
theorem State.taking_between {i : Instr} (hi : opcodeOf i ∈ [.timerStart, .timerTick, .busEvent, .engineByte, .tcIsr])
    (s : State) : (s.taking i).mem = s.mem ∧ (s.taking i).curReg = s.curReg := by
  rcases cases_of_between hi with ⟨f, d, rfl⟩ | rfl | rfl | rfl | rfl <;> simp [State.taking, effectOf]

theorem afterOps_between {ops : List Instr} (hb : betweenHandlers ops) (s : State) :
    (afterOps ops s).mem = s.mem ∧ (afterOps ops s).curReg = s.curReg := by
  induction ops generalizing s with
  | nil => exact ⟨rfl, rfl⟩
  | cons i ops ih =>
    obtain ⟨hi, hops⟩ := List.forall_mem_cons.1 hb
    obtain ⟨hm, hr⟩ := State.taking_between hi s
    obtain ⟨hm', hr'⟩ := ih hops (s.taking i)
    exact ⟨hm'.trans hm, hr'.trans hr⟩

/-- A bus event writes LAT_Y only when the Y register is read (40_bus_fsm.md R107). -/
theorem State.busEvent_latY_of_ne {s : State} (h : s.curReg ≠ s.config.regY) (f : BitVec 4) (d : Byte) :
    (s.busEvent f d).latY = s.latY := by
  by_cases hrow : s.tstate = .awaitRxne ∧ f.getLsbD 3 = true
  · rw [State.busEvent_row6 hrow.1 hrow.2, State.row6_eq]
    simp [h]
  · exact (State.busEvent_latches hrow d).2

/-- Between two handlers LAT_Y stays while another register is read. -/
theorem afterOps_between_latY {ops : List Instr} (hb : betweenHandlers ops) {s : State} (h : s.curReg ≠ s.config.regY) :
    (afterOps ops s).latY = s.latY := by
  induction ops generalizing s with
  | nil => rfl
  | cons i ops ih =>
    obtain ⟨hi, hops⟩ := List.forall_mem_cons.1 hb
    obtain ⟨-, hr⟩ := State.taking_between hi s
    rw [afterOps_cons, ih hops (by rwa [hr, State.taking_config])]
    rcases between_cases hi s with ⟨f, d, rfl⟩ | ⟨⟨-, -, -, hlat⟩, -⟩
    · exact State.busEvent_latY_of_ne (s := { s with schedule := s.schedule.tail }) h f d
    · exact hlat

/-! ### The bus events among some operations -/

theorem busEventsIn_busEvent (f : BitVec 4) (d : Byte) (ops : List Instr) :
    busEventsIn (.busEvent f d :: ops) = (f, d) :: busEventsIn ops := rfl

theorem busEventsIn_append (ops ops' : List Instr) : busEventsIn (ops ++ ops') = busEventsIn ops ++ busEventsIn ops' :=
  List.filterMap_append

theorem busEventsIn_ticks (n : Nat) : busEventsIn (Instr.ticks n) = [] := by
  induction n with
  | zero => rfl
  | succ n ih => exact ih

/-! ### A whole transaction among other steps -/

/-- The flags a transaction still waits for in a position, one for each move to IDLE (30_encoding.md R78, R79). -/
def flagsLeft (st : TState) : List (BitVec 4) :=
  [0b0001#4, 0b0010#4, 0b0100#4, 0b0001#4, 0b0010#4, 0b1000#4].drop (6 - movesToIdle st)

/-- The first flag left is the one the position expects, and the others are those left in the next position. -/
theorem flagsLeft_eq_cons {st : TState} (h : st ≠ .idle) :
    ∃ g, expect st = some g ∧ flagsLeft st = g.only :: flagsLeft st.next := by
  cases st
  case idle => exact absurd rfl h
  all_goals exact ⟨_, rfl, rfl⟩

theorem flagsLeft_eq_nil {st : TState} (h : flagsLeft st = []) : st = .idle := by
  by_contra hne
  obtain ⟨g, -, hcons⟩ := flagsLeft_eq_cons hne
  rw [hcons] at h
  cases h

theorem TState.next_eq_idle_iff {st : TState} : st.next = .idle ↔ st = .awaitRxne := by
  cases st <;> simp [TState.next]

/-- The last event of a transaction comes in AWAIT_RXNE, the last position; an event before it leaves the others to come. -/
theorem last_of_flagsLeft {events : List (BitVec 4 × Byte)} {e : BitVec 4 × Byte} {st : TState} {d : Byte}
    (hleft : events.map Prod.fst = flagsLeft st) (hlast : (e :: events).getLast?.map Prod.snd = some d) :
    (st ≠ .idle → events.getLast?.map Prod.snd = some d) ∧ (st = .idle → e.2 = d) := by
  cases events with
  | nil =>
    have hidle : st = .idle := flagsLeft_eq_nil hleft.symm
    exact ⟨fun h => absurd hidle h, fun _ => by simpa using hlast⟩
  | cons e' events =>
    rw [List.getLast?_cons_cons] at hlast
    refine ⟨fun _ => hlast, ?_⟩
    rintro rfl
    cases hleft

/-- The expected event moves one place along the chain and, from the last place, latches the byte (40_bus_fsm.md R102-R107). -/
theorem State.taking_expected {s : State} {g : BusFlag} (h : expect s.tstate = some g) (d : Byte) :
    (s.taking (.busEvent g.only d)).tstate = s.tstate.next ∧
      (s.taking (.busEvent g.only d)).curReg = s.curReg ∧
      (s.taking (.busEvent g.only d)).latX =
        (if s.tstate = .awaitRxne ∧ s.curReg = s.config.regX then d else s.latX) ∧
      (s.taking (.busEvent g.only d)).latY =
        (if s.tstate = .awaitRxne ∧ s.curReg ≠ s.config.regX ∧ s.curReg = s.config.regY then d else s.latY) := by
  have hrow : rowTaken s.tstate g.only = true := rowTaken_iff.2 ⟨g, h, g.setIn_only⟩
  rw [State.taking, effectOf, State.busEvent_of_rowTaken (by exact hrow),
    State.performRow_eq (by exact ne_idle_of_rowTaken hrow)]
  exact ⟨rfl, rfl, rfl, rfl⟩

/-- When the bus events among the steps are those a transaction waits for, and the last of them carries `d`, the transaction ends
with `d` in the latch of the register it reads (40_bus_fsm.md R107, R109). -/
theorem afterOps_transaction {ops : List Instr} (hb : betweenHandlers ops) {s : State} {d : Byte}
    (hflags : (busEventsIn ops).map Prod.fst = flagsLeft s.tstate)
    (hlast : s.tstate ≠ .idle → (busEventsIn ops).getLast?.map Prod.snd = some d) :
    (afterOps ops s).tstate = .idle ∧
      (afterOps ops s).latX = (if s.tstate ≠ .idle ∧ s.curReg = s.config.regX then d else s.latX) ∧
      (afterOps ops s).latY =
        (if s.tstate ≠ .idle ∧ s.curReg ≠ s.config.regX ∧ s.curReg = s.config.regY then d else s.latY) := by
  induction ops generalizing s with
  | nil =>
    have hidle : s.tstate = .idle := flagsLeft_eq_nil hflags.symm
    simp [hidle]
  | cons i ops ih =>
    obtain ⟨hi, hops⟩ := List.forall_mem_cons.1 hb
    rw [afterOps_cons]
    rcases between_cases hi s with ⟨f, d', rfl⟩ | ⟨⟨hst, hr, hx, hy⟩, hev⟩
    · rw [busEventsIn_busEvent] at hflags hlast
      have hne : s.tstate ≠ .idle := by
        intro hidle
        rw [hidle] at hflags
        cases hflags
      obtain ⟨g, hexp, hcons⟩ := flagsLeft_eq_cons hne
      obtain ⟨rfl, hleft⟩ := List.cons.inj (hflags.trans hcons)
      obtain ⟨hlater, hnow⟩ := last_of_flagsLeft (e := (g.only, d')) hleft (hlast hne)
      obtain ⟨hst, hr, hx, hy⟩ := State.taking_expected hexp d'
      have hrest := ih (s := s.taking (.busEvent g.only d')) hops (by rw [hst, hleft]) (by rwa [hst])
      rw [hst, hr, hx, hy, State.taking_config] at hrest
      by_cases hrx : s.tstate = .awaitRxne
      · obtain rfl : d' = d := hnow (TState.next_eq_idle_iff.2 hrx)
        simpa [hrx, TState.next] using hrest
      · simpa [hrx, hne, TState.next_eq_idle_iff] using hrest
    · rw [hev] at hflags hlast
      simpa only [hst, hr, hx, hy, State.taking_config] using ih (s := s.taking i) hops (by rw [hst, hflags]) (by rwa [hst])

/-- The transaction that a handler has started, on its register, and the steps up to the next handler. -/
theorem afterOps_wholeTransaction {ops : List Instr} (hb : betweenHandlers ops) {s : State} {d : Byte}
    (hst : s.tstate = .awaitSb1) (h : wholeTransaction d (busEventsIn ops)) :
    (afterOps ops s).tstate = .idle ∧
      (afterOps ops s).latX = (if s.curReg = s.config.regX then d else s.latX) ∧
      (afterOps ops s).latY = (if s.curReg ≠ s.config.regX ∧ s.curReg = s.config.regY then d else s.latY) := by
  obtain ⟨hflags, hlast⟩ := h
  have hdone := afterOps_transaction hb (s := s) (d := d) (by rw [hflags, hst]; rfl) fun _ => hlast
  simpa [hst] using hdone

/-! ### The fields of the frame -/

/-- The axis's field of the frame shows a reading: its three digits (42_formatter.md R150). -/
def State.Shows (s : State) (ax : Axis) (v : Byte) : Prop := ∀ k < 3, s.frame (fieldOffset ax + k) = (digitBytes v)[k]?

/-- FORMAT shows its reading in its axis's field. -/
theorem State.shows_format (s : State) (ax : Axis) (v : Byte) : (s.format ax v).Shows ax v := by
  intro k hk
  have hlt : k < (digitBytes v).length := by rwa [digitBytes_length]
  rw [State.frame_format, if_pos (Nat.le_add_right ..), Nat.add_sub_cancel_left, List.getElem?_eq_getElem hlt]
  rfl

/-- FORMAT of the Y axis leaves what the X field shows. -/
theorem State.Shows.format_y {s : State} {x : Byte} (h : s.Shows .x x) (y : Byte) : (s.format .y y).Shows .x x := by
  intro k hk
  rw [State.frame_format, if_neg (by simp only [fieldOffset]; omega)]
  exact h k hk

/-- What a field shows depends on the configuration and memory alone. -/
theorem State.Shows.congr {s t : State} {ax : Axis} {v : Byte} (h : s.Shows ax v) (hc : t.config = s.config)
    (hm : t.mem = s.mem) : t.Shows ax v := fun k hk => (State.frame_congr hc hm _).trans (h k hk)

/-! ### The two cycles of handlers -/

/-- UPD_ISR in IDLE starts the X read, shows LAT_X in its field and leaves the latches (R133). -/
theorem State.taking_updIsr {s : State} (hidle : s.tstate = .idle) :
    (s.taking .updIsr).tstate = .awaitSb1 ∧ (s.taking .updIsr).curReg = s.config.regX ∧
      (s.taking .updIsr).latX = s.latX ∧ (s.taking .updIsr).latY = s.latY ∧ (s.taking .updIsr).Shows .x s.latX := by
  refine ⟨?_, ?_, ?_, ?_, ?_⟩
  case refine_5 =>
    exact (State.shows_format { s with schedule := s.schedule.tail } .x s.latX).congr (by simp)
      (by rw [State.taking, effectOf, State.updateHandler_mem])
  all_goals
    rw [State.taking, effectOf, State.updateHandler_eq, State.beginRead_idle (by exact hidle)]

/-- CMP_ISR in IDLE starts the Y read and leaves the latches (R134). -/
theorem State.taking_cmpIsr {s : State} (hidle : s.tstate = .idle) :
    (s.taking .cmpIsr).tstate = .awaitSb1 ∧ (s.taking .cmpIsr).curReg = s.config.regY ∧
      (s.taking .cmpIsr).latX = s.latX := by
  rw [State.taking, effectOf, State.compareHandler_eq, State.beginRead_idle (by exact hidle)]
  simp

/-- CMP_ISR shows LAT_Y in its field and leaves what the X field shows, whatever the position (R134). -/
theorem State.Shows.taking_cmpIsr {s : State} {x : Byte} (h : s.Shows .x x) :
    (s.taking .cmpIsr).Shows .x x ∧ (s.taking .cmpIsr).Shows .y s.latY :=
  have hm : (s.taking .cmpIsr).mem = (({ s with schedule := s.schedule.tail } : State).format .y s.latY).mem :=
    by rw [State.taking, effectOf, State.compareHandler_mem]
  ⟨(State.Shows.format_y h s.latY).congr (by simp) hm,
    (State.shows_format { s with schedule := s.schedule.tail } .y s.latY).congr (by simp) hm⟩

/-- An update handler in IDLE and the whole transaction it starts: LAT_X holds the reading. -/
theorem afterOps_updateCycle {ops : List Instr} (hb : betweenHandlers ops) {s : State} {x : Byte} (hidle : s.tstate = .idle)
    (h : wholeTransaction x (busEventsIn ops)) :
    (afterOps ops (s.taking .updIsr)).tstate = .idle ∧ (afterOps ops (s.taking .updIsr)).latX = x := by
  obtain ⟨hst, hr, -⟩ := State.taking_updIsr hidle
  obtain ⟨hdone, hx, -⟩ := afterOps_wholeTransaction hb hst h
  exact ⟨hdone, by rw [hx, hr, State.taking_config, if_pos rfl]⟩

/-- A compare handler in IDLE and the whole transaction it starts: LAT_Y holds the reading, and LAT_X stays. -/
theorem afterOps_compareCycle {ops : List Instr} (hb : betweenHandlers ops) {s : State} {y : Byte}
    (hw : s.config.WellFormed) (hidle : s.tstate = .idle) (h : wholeTransaction y (busEventsIn ops)) :
    (afterOps ops (s.taking .cmpIsr)).tstate = .idle ∧ (afterOps ops (s.taking .cmpIsr)).latX = s.latX ∧
      (afterOps ops (s.taking .cmpIsr)).latY = y := by
  obtain ⟨-, -, -, haxes, -⟩ := (Config.wellFormed_iff _).1 hw
  obtain ⟨hst, hr, hkeep⟩ := State.taking_cmpIsr hidle
  obtain ⟨hdone, hx, hy⟩ := afterOps_wholeTransaction hb hst h
  rw [hr, State.taking_config] at hx hy
  exact ⟨hdone, by rw [hx, if_neg haxes.symm, hkeep], by rw [hy, if_pos ⟨haxes.symm, rfl⟩]⟩

/-- An update handler in IDLE and any steps up to the next handler: the X field shows LAT_X as it was, and LAT_Y stays. -/
theorem afterOps_showsX {ops : List Instr} (hb : betweenHandlers ops) {s : State} (hw : s.config.WellFormed)
    (hidle : s.tstate = .idle) :
    (afterOps ops (s.taking .updIsr)).Shows .x s.latX ∧ (afterOps ops (s.taking .updIsr)).latY = s.latY := by
  obtain ⟨-, -, -, haxes, -⟩ := (Config.wellFormed_iff _).1 hw
  obtain ⟨-, hr, -, hlat, hshows⟩ := State.taking_updIsr hidle
  obtain ⟨hm, -⟩ := afterOps_between hb (s.taking .updIsr)
  exact ⟨hshows.congr (afterOps_config ..) hm,
    (afterOps_between_latY hb (by rwa [hr, State.taking_config])).trans hlat⟩

/-- Two cycles of handlers, the transactions of the first complete: the frame that the second compare handler submits shows their
readings. -/
theorem afterOps_twoCycles {afterX afterY afterX' : List Instr} (hbx : betweenHandlers afterX) (hby : betweenHandlers afterY)
    (hbx' : betweenHandlers afterX') {s : State} {x y : Byte} (hw : s.config.WellFormed) (hidle : s.tstate = .idle)
    (hx : wholeTransaction x (busEventsIn afterX)) (hy : wholeTransaction y (busEventsIn afterY)) :
    let t := afterOps ([Instr.updIsr] ++ afterX ++ [Instr.cmpIsr] ++ afterY ++ [Instr.updIsr] ++ afterX' ++ [Instr.cmpIsr]) s
    t.Shows .x x ∧ t.Shows .y y := by
  simp only [afterOps_append, afterOps_cons, afterOps_nil]
  obtain ⟨hidle₁, hx₁⟩ := afterOps_updateCycle hbx hidle hx
  obtain ⟨hidle₂, hx₂, hy₂⟩ := afterOps_compareCycle hby (by simpa using hw) hidle₁ hy
  obtain ⟨hshows, hy₃⟩ := afterOps_showsX hbx' (by simpa using hw) hidle₂
  have hfinal := hshows.taking_cmpIsr
  rwa [hx₂, hx₁, hy₃, hy₂] at hfinal

/-! ### The cycles the timer paces -/

/-- The start of a cycle: the timer runs, CNT = 0, and the update event is pending. -/
def State.AtUpdate (s : State) : Prop := s.timEn = true ∧ s.cnt = 0 ∧ s.updPend = true

/-- The compare match of a cycle: the timer runs, CNT = P_CMP, and the compare event is pending. -/
def State.AtCompare (s : State) : Prop := s.timEn = true ∧ s.cnt = s.config.cmp ∧ s.cmpPend = true

/-- P_CMP ticks lead from the start of the period to the compare match. -/
theorem atCompare_afterOps_ticks {s : State} (hw : s.config.WellFormed) (hen : s.timEn = true) (hcnt : s.cnt = 0) :
    (afterOps (Instr.ticks s.config.cmp) s).AtCompare := by
  obtain ⟨-, -, ⟨hpos, hcmp⟩, -⟩ := (Config.wellFormed_iff _).1 hw
  have hlt : s.config.cmp < s.config.period := by omega
  have hreach : ticksReach s.config 0 s.config.cmp s.config.cmp = true := by
    rw [ticksReach_of_lt (by rwa [Nat.zero_add]), decide_eq_true_eq]
    omega
  rw [afterOps_ticks hw (by simp [State.TimerInv, hcnt]), hcnt, hreach, Nat.zero_add, Nat.mod_eq_of_lt hlt]
  exact ⟨hen, rfl, Bool.or_true _⟩

/-- The remaining ticks of the period lead from the compare match to the next update event. -/
theorem atUpdate_afterOps_ticks {s : State} (hw : s.config.WellFormed) (hen : s.timEn = true)
    (hcnt : s.cnt = s.config.cmp) : (afterOps (Instr.ticks (s.config.period - s.config.cmp)) s).AtUpdate := by
  obtain ⟨-, -, ⟨hpos, hcmp⟩, -⟩ := (Config.wellFormed_iff _).1 hw
  have hsum : s.config.cmp + (s.config.period - s.config.cmp) = s.config.period := by omega
  have hreach : ticksReach s.config s.config.cmp (s.config.period - s.config.cmp) 0 = true := by
    refine ticksReach_iff.2 ⟨s.config.period - s.config.cmp - 1, by omega, ?_⟩
    rw [show s.config.cmp + (s.config.period - s.config.cmp - 1) + 1 = s.config.period by omega, Nat.mod_self]
  rw [afterOps_ticks hw (by simpa [State.TimerInv, hcnt] using hcmp), hcnt, hreach, hsum, Nat.mod_self]
  exact ⟨hen, rfl, Bool.or_true _⟩

/-- The events of a transaction are always enabled. -/
theorem enabledInTurn_xact (d : Byte) (s : State) : EnabledInTurn (Instr.xact d) s := by
  simp [Instr.xact, enabled, pending]

/-- A handler and the events of its transaction leave TIM_EN and CNT. -/
theorem afterOps_handler_xact_timer {i : Instr} (hi : i = .updIsr ∨ i = .cmpIsr) (d : Byte) (s : State) :
    (afterOps ([i] ++ Instr.xact d) s).timEn = s.timEn ∧ (afterOps ([i] ++ Instr.xact d) s).cnt = s.cnt := by
  rcases hi with rfl | rfl <;> simp [Instr.xact, State.taking, effectOf]

/-- A handler whose event is pending, the events of its transaction and, while the timer runs, some ticks are enabled in turn. -/
theorem enabledInTurn_handler_xact_ticks {i : Instr} (hi : i = .updIsr ∨ i = .cmpIsr) {s : State} (hpend : enabled i s = true)
    (hen : s.timEn = true) (d : Byte) (n : Nat) : EnabledInTurn ([i] ++ Instr.xact d ++ Instr.ticks n) s := by
  rw [enabledInTurn_append]
  exact ⟨⟨hpend, enabledInTurn_xact d _⟩, enabledInTurn_ticks ((afterOps_handler_xact_timer hi d s).1.trans hen) n⟩

/-- The first half of a cycle: the update handler, its transaction and the ticks up to the compare match. -/
def opsToCompare (c : Config) (d : Byte) : List Instr := [Instr.updIsr] ++ Instr.xact d ++ Instr.ticks c.cmp

/-- The second half of a cycle: the compare handler, its transaction and the ticks up to the next update event. -/
def opsToUpdate (c : Config) (d : Byte) : List Instr := [Instr.cmpIsr] ++ Instr.xact d ++ Instr.ticks (c.period - c.cmp)

theorem State.AtUpdate.toCompare {s : State} (h : s.AtUpdate) (hw : s.config.WellFormed) (d : Byte) :
    EnabledInTurn (opsToCompare s.config d) s ∧ (afterOps (opsToCompare s.config d) s).AtCompare := by
  obtain ⟨hen, hcnt, hpend⟩ := h
  obtain ⟨hen', hcnt'⟩ := afterOps_handler_xact_timer (.inl rfl) d s
  have hhalf := atCompare_afterOps_ticks (s := afterOps ([Instr.updIsr] ++ Instr.xact d) s) (by rwa [afterOps_config])
    (hen'.trans hen) (hcnt'.trans hcnt)
  rw [afterOps_config, ← afterOps_append] at hhalf
  exact ⟨enabledInTurn_handler_xact_ticks (.inl rfl) hpend hen d _, hhalf⟩

theorem State.AtCompare.toUpdate {s : State} (h : s.AtCompare) (hw : s.config.WellFormed) (d : Byte) :
    EnabledInTurn (opsToUpdate s.config d) s ∧ (afterOps (opsToUpdate s.config d) s).AtUpdate := by
  obtain ⟨hen, hcnt, hpend⟩ := h
  obtain ⟨hen', hcnt'⟩ := afterOps_handler_xact_timer (.inr rfl) d s
  have hhalf := atUpdate_afterOps_ticks (s := afterOps ([Instr.cmpIsr] ++ Instr.xact d) s) (by rwa [afterOps_config])
    (hen'.trans hen) (by rw [hcnt', hcnt, afterOps_config])
  rw [afterOps_config, ← afterOps_append] at hhalf
  exact ⟨enabledInTurn_handler_xact_ticks (.inr rfl) hpend hen d _, hhalf⟩

/-- From the start of a cycle, a cycle, the first half of the next and its compare handler are enabled in turn. -/
theorem State.AtUpdate.enabledInTurn {s : State} (h : s.AtUpdate) (hw : s.config.WellFormed) (x y x' : Byte) :
    EnabledInTurn (opsToCompare s.config x ++ opsToUpdate s.config y ++ opsToCompare s.config x' ++ [Instr.cmpIsr])
      s := by
  obtain ⟨hen₁, hcompare⟩ := h.toCompare hw x
  obtain ⟨hen₂, hupdate⟩ := hcompare.toUpdate (by simpa using hw) y
  obtain ⟨hen₃, -, -, hpend⟩ := hupdate.toCompare (by simpa using hw) x'
  simp only [afterOps_config] at hen₂ hen₃ hpend
  simp only [enabledInTurn_append, afterOps_append]
  exact ⟨⟨⟨hen₁, hen₂⟩, hen₃⟩, hpend, trivial⟩

/-- The events of a transaction and some ticks may stand between two handlers. -/
theorem betweenHandlers_xact_ticks (d : Byte) (n : Nat) : betweenHandlers (Instr.xact d ++ Instr.ticks n) := by
  intro i hi
  rcases List.mem_append.1 hi with hi | hi
  · simp only [Instr.xact, List.mem_cons, List.not_mem_nil, or_false] at hi
    rcases hi with rfl | rfl | rfl | rfl | rfl | rfl <;> simp [opcodeOf]
  · rw [List.eq_of_mem_replicate hi]
    decide

theorem wholeTransaction_xact_ticks (d : Byte) (n : Nat) :
    wholeTransaction d (busEventsIn (Instr.xact d ++ Instr.ticks n)) := by
  rw [busEventsIn_append, busEventsIn_ticks]
  exact ⟨rfl, rfl⟩

/-- Settles O25: a run of the two cycles ends in the state their operations leave, which shows the readings; and the cycles the
timer paces are such an interleaving, enabled in turn. -/
theorem readingsAppearOneCycleLater : Obligations.ReadingsAppearOneCycleLater := by
  unfold Obligations.ReadingsAppearOneCycleLater
  intro carries
  have hcarries : ∀ {t : State} {x y : Byte}, t.Shows .x x ∧ t.Shows .y y → carries t x y := by
    rintro t x y ⟨hx, hy⟩
    unfold State.Shows at hx hy
    simp only [digitBytes_eq] at hx hy
    exact ⟨hx 0 (by decide), hx 1 (by decide), hx 2 (by decide), hy 0 (by decide), hy 1 (by decide), hy 2 (by decide)⟩
  refine ⟨?_, ?_⟩
  · intro s t x y afterX afterY afterX' rest hidle hbx hby hbx' hx hy ops hs hr
    obtain ⟨hw, rfl⟩ := eq_afterOps_of_runSteps hs hr
    exact hcarries (afterOps_twoCycles hbx hby hbx' (hw (by simp [ops])) hidle hx hy)
  · intro s x y x' rest hw hen hcnt hpend _ hidle ops hs
    have hops : ops = opsToCompare s.config x ++ opsToUpdate s.config y ++ opsToCompare s.config x' ++ [Instr.cmpIsr] := by
      simp only [ops, opsToCompare, opsToUpdate, List.append_assoc]
    have hturn : EnabledInTurn ops s := hops ▸ State.AtUpdate.enabledInTurn ⟨hen, hcnt, hpend⟩ hw x y x'
    refine ⟨_, runSteps_afterOps hw hs hturn, afterOps_schedule hs, hcarries ?_⟩
    have hshows := afterOps_twoCycles (betweenHandlers_xact_ticks x s.config.cmp)
      (betweenHandlers_xact_ticks y (s.config.period - s.config.cmp)) (betweenHandlers_xact_ticks x' s.config.cmp) hw hidle
      (wholeTransaction_xact_ticks x _) (wholeTransaction_xact_ticks y _)
    simpa only [ops, List.append_assoc] using hshows

end Sys2Proof.Machine

/-! The proofs of 42_formatter.md: what FORMAT writes and what it leaves (R150, R152), and the laws of the three digits (R151). -/

namespace Sys2Proof.Machine

/-- Settles O26: the words are the encoder's, and FORMAT changes memory alone, at the three digits of its axis's field. -/
theorem formatEffect : Obligations.FormatEffect := by
  refine ⟨fun v => decodeInvertsEncode (.format .x v), fun v => decodeInvertsEncode (.format .y v), fun s ax v hw => ?_⟩
  refine ⟨(s.format ax v).mem, ?_, fun a => ?_⟩
  · rw [exec_next hw rfl, effectOf, ← State.format_frame]
  · rw [State.readByte_withFormat]
    cases ax <;> rfl

/-- Settles O27: the bytes are those of decimal division, and a byte's value has at most three digits. -/
theorem digitLaws : Obligations.DigitLaws := by
  intro v
  have hv : v.toNat < 256 := v.isLt
  have hvalue : v.toNat = 100 * (v.toNat / 100) + 10 * (v.toNat / 10 % 10) + v.toNat % 10 := by omega
  have hbounds : v.toNat / 100 ≤ 2 ∧ v.toNat / 10 % 10 ≤ 9 ∧ v.toNat % 10 ≤ 9 := by omega
  exact ⟨_, _, _, digitBytes_eq v, rfl, rfl, rfl, hvalue, hbounds⟩

end Sys2Proof.Machine

/-! The proofs of 43_queue_dispatch.md: the operations of the queue and the engine, state by state (R160-R166), the queue's order
(R162), and what a transfer moves (R167, R168). -/

namespace Sys2Proof.Machine

/-! ### The operations, state by state -/

/-- Settles O31: the word is the encoder's, and ENQUEUE drops its handle on a full queue and finds room on any other. -/
theorem enqueueEffect : Obligations.EnqueueEffect := by
  refine ⟨fun h => decodeInvertsEncode (.enqueue h), fun s h hw => ?_⟩
  rw [exec_next hw rfl, effectOf]
  split
  · next hfull => rw [State.enqueue_full hfull]
  · next hroom => rw [State.enqueue_room hroom]

/-- Settles O32: the word is the encoder's, and the head is an entry of the storage. -/
theorem dequeueEffect : Obligations.DequeueEffect := by
  refine ⟨decodeInvertsEncode .dequeue, fun s hw hempty => ?_, fun s hh hw hheld => ?_⟩
  · rw [exec_next (i := .dequeue) hw rfl, effectOf, State.dequeueLabelled_empty hempty]
  · rw [exec_next (i := .dequeue) hw rfl, effectOf, State.dequeueLabelled_held hheld.ne', State.entry_eq hh]

/-- Settles O35: the word is the encoder's, and under the engine's invariants the start does not fault. -/
theorem submitEffect : Obligations.SubmitEffect := by
  refine ⟨fun h => decodeInvertsEncode (.submit h), fun s h hw hi => ?_⟩
  rw [exec_next hw rfl, effectOf, State.submit_eq hi]

/-- Settles O36: the word is the encoder's, and ENGINE_START loads an engine that is free and faults on any other. -/
theorem engineStartEffect : Obligations.EngineStartEffect := by
  refine ⟨fun h => decodeInvertsEncode (.engineStart h), fun s h hw => ?_⟩
  rw [exec_next hw rfl, effectOf]
  split
  · next hbusy => rw [State.engineStart_busy hbusy]
  · next hfree =>
    obtain ⟨hr, ht⟩ := not_or.1 hfree
    rw [State.engineStart_idle (not_not.1 hr) (Bool.eq_false_iff.2 ht)]

/-- ENGINE_BYTE at any address: the byte the block determines there, or else some byte, which counts one draw (R165; 20_memory.md
R53). -/
theorem State.engineByte_eq (s : State) :
    ∃ (b : Byte) (n : Nat), (∀ x, s.readByte s.txPtr.toNat = some x → b = x ∧ n = s.draws) ∧
      (s.readByte s.txPtr.toNat = none → n = s.draws + 1) ∧
      s.engineByte = { s with
        txOut := s.txOut ++ [b], draws := n, txPtr := s.txPtr + 1, txRem := s.txRem - 1
        tcPend := s.tcPend || decide (s.txRem - 1 = 0) } := by
  cases hread : s.readByte s.txPtr.toNat with
  | none => exact ⟨_, _, nofun, fun _ => rfl, State.engineByte_outside hread⟩
  | some b => exact ⟨b, s.draws, fun _ hx => ⟨Option.some.inj hx, rfl⟩, nofun, State.engineByte_inside hread⟩

/-- Settles O37: the word is the encoder's, TX_PTR's addition is the one modulo 2^32, and the last byte is the one with
TX_REM = 1. -/
theorem engineByteEffect : Obligations.EngineByteEffect := by
  refine ⟨decodeInvertsEncode .engineByte, fun s hw hpos => ?_⟩
  obtain ⟨b, n, hinside, houtside, heq⟩ := s.engineByte_eq
  have hptr : s.txPtr + 1 = BitVec.ofNat 32 ((s.txPtr.toNat + 1) % 2 ^ 32) := by
    apply BitVec.eq_of_toNat_eq
    simp
  have hlast : s.txRem - 1 = 0 ↔ s.txRem = 1 := by omega
  refine ⟨b, n, hinside, houtside, ?_⟩
  rw [exec_next (i := .engineByte) hw (by simpa [enabled] using hpos), effectOf, heq, hptr]
  by_cases h1 : s.txRem = 1 <;> simp [hlast, h1]

/-- Settles O38: the word is the encoder's; with a handle queued the engine is free once TC_PEND is cleared, so the start does not
fault. -/
theorem transferCompleteHandlerEffect : Obligations.TransferCompleteHandlerEffect := by
  refine ⟨decodeInvertsEncode .tcIsr, fun s hw ht hempty => ?_, fun s hh hw hi ht hheld => ?_⟩
  · rw [exec_next (i := .tcIsr) hw ht, effectOf, State.transferComplete_empty hempty]
  · obtain ⟨-, hpend, -⟩ := hi
    obtain ⟨-, hr⟩ := hpend ht
    rw [exec_next (i := .tcIsr) hw ht, effectOf, State.transferComplete_held hheld.ne',
      State.engineStart_idle (by exact hr) rfl, State.entry_eq hh]

/-! ### The queue's order -/

/-- The queue holds these handles, oldest first, in a ring that is in order. -/
def State.Holds (s : State) (held : List Handle) : Prop := s.QueueInv ∧ s.contents = held

theorem State.Holds.qCount {s : State} {held : List Handle} (h : s.Holds held) : s.qCount = held.length := by
  obtain ⟨-, rfl⟩ := h
  simp [State.contents]

theorem State.holds_nil {s : State} (hi : s.QueueInv) (hn : s.qCount = 0) : s.Holds [] :=
  ⟨hi, by simp [State.contents, hn]⟩

/-- ENQUEUE puts its handle behind the others, and drops it on a full queue. -/
theorem State.Holds.enqueue {s : State} {held : List Handle} (hs : s.Holds held) (h : Handle) :
    (s.enqueue h).Holds (if held.length = s.config.qcap then held else held ++ [h]) := by
  have hcount := hs.qCount
  split
  · next hfull => rwa [State.enqueue_full (hcount.trans hfull)]
  · next hroom =>
    obtain ⟨hi, rfl⟩ := hs
    exact ⟨State.enqueue_queueInv hi h, State.contents_enqueue hi (hcount ▸ hroom) h⟩

/-- DEQUEUE returns the oldest handle and keeps the others; it raises no fault. -/
theorem State.Holds.dequeueLabelled {s : State} {h : Handle} {held : List Handle} (hs : s.Holds (h :: held)) :
    s.dequeueLabelled.Holds held ∧ s.dequeueLabelled.returned = s.returned ++ [h] ∧ s.dequeueLabelled.fault = s.fault := by
  have hcount : s.qCount ≠ 0 := by simp [hs.qCount]
  obtain ⟨hi, hheld⟩ := hs
  have heq := State.dequeueLabelled_held hcount
  have hcontents : s.contents = s.entry s.qHead :: s.dequeueLabelled.contents := by
    rw [heq]
    exact State.contents_dequeue hcount hi.2.1 rfl rfl rfl rfl
  rw [hheld] at hcontents
  obtain ⟨hhead, hrest⟩ := List.cons.inj hcontents
  refine ⟨⟨State.dequeueLabelled_queueInv hi, hrest.symm⟩, ?_, ?_⟩
  · rw [heq, hhead]
  · rw [heq]

theorem State.Holds.taking_enqueue {s : State} {held : List Handle} (hs : s.Holds held) (h : Handle) :
    (s.taking (.enqueue h)).Holds (if held.length = s.config.qcap then held else held ++ [h]) :=
  State.Holds.enqueue (s := { s with schedule := s.schedule.tail }) hs h

@[simp] theorem State.taking_enqueue_returned (s : State) (h : Handle) : (s.taking (.enqueue h)).returned = s.returned :=
  State.enqueue_returned ..

@[simp] theorem State.taking_enqueue_fault (s : State) (h : Handle) : (s.taking (.enqueue h)).fault = s.fault :=
  State.enqueue_fault ..

theorem State.Holds.taking_dequeue {s : State} {h : Handle} {held : List Handle} (hs : s.Holds (h :: held)) :
    (s.taking .dequeue).Holds held ∧ (s.taking .dequeue).returned = s.returned ++ [h] ∧
      (s.taking .dequeue).fault = s.fault :=
  State.Holds.dequeueLabelled (s := { s with schedule := s.schedule.tail }) hs

/-- A scheduled DEQUEUE on an empty queue raises F_QEMPTY. -/
theorem State.Holds.taking_dequeue_empty {s : State} (hs : s.Holds []) :
    (s.taking .dequeue).fault = s.fault ||| 0b0010#4 := by
  rw [State.taking, effectOf, State.dequeueLabelled_empty (by exact hs.qCount)]

/-- Where no fault stands after some operations, none stood before them. -/
theorem fault_eq_zero_of_afterOps {ops : List Instr} {s : State} (h : (afterOps ops s).fault = 0) : s.fault = 0 := by
  induction ops generalizing s with
  | nil => exact h
  | cons i ops ih =>
    obtain ⟨m, hm⟩ := effectOf_fault_or i { s with schedule := s.schedule.tail }
    have hfirst : s.fault ||| m = 0 := hm.symm.trans (ih h)
    exact (BitVec.or_eq_zero_iff.1 hfirst).1

/-- Operations on the queue of which none faults: what they return and what is held after them is what was held before them and
what they accept, in this order (R162). -/
theorem afterOps_firstInFirstOut {ops : List Instr} (hops : ∀ i ∈ ops, i = .dequeue ∨ ∃ h, i = .enqueue h) {s : State}
    {held : List Handle} (hs : s.Holds held) (hfault : (afterOps ops s).fault = 0) :
    ∃ out, (afterOps ops s).returned = s.returned ++ out ∧
      out ++ (afterOps ops s).contents = held ++ accepted s.config.qcap held.length ops := by
  induction ops generalizing s held with
  | nil => exact ⟨[], by simp, by simp [accepted, hs.2]⟩
  | cons i ops ih =>
    have hrest := fun j hj => hops j (List.mem_cons_of_mem _ hj)
    rw [afterOps_cons] at hfault ⊢
    obtain rfl | ⟨h, rfl⟩ := hops i List.mem_cons_self
    · cases held with
      | nil =>
        have hno := fault_eq_zero_of_afterOps hfault
        rw [hs.taking_dequeue_empty] at hno
        exact absurd (BitVec.or_eq_zero_iff.1 hno).2 (by decide)
      | cons h held =>
        obtain ⟨hheld, hret, -⟩ := hs.taking_dequeue
        obtain ⟨out, hout, horder⟩ := ih hrest hheld hfault
        exact ⟨h :: out, by rw [hout, hret]; simp, by simpa [accepted] using horder⟩
    · obtain ⟨out, hout, horder⟩ := ih hrest (hs.taking_enqueue h) hfault
      refine ⟨out, by simpa using hout, ?_⟩
      by_cases hfull : held.length = s.config.qcap <;> simpa [accepted, hfull] using horder

/-- ENQUEUEs that all find room put their handles behind the others, in order. -/
theorem State.Holds.afterOps_enqueues {hs : List Handle} {s : State} {held : List Handle} (h : s.Holds held)
    (hroom : held.length + hs.length ≤ s.config.qcap) :
    (afterOps (hs.map .enqueue) s).Holds (held ++ hs) ∧ (afterOps (hs.map .enqueue) s).returned = s.returned ∧
      (afterOps (hs.map .enqueue) s).fault = s.fault := by
  induction hs generalizing s held with
  | nil => simpa using h
  | cons x hs ih =>
    rw [List.length_cons] at hroom
    have hnext := h.taking_enqueue x
    rw [if_neg (by omega)] at hnext
    simpa using ih hnext (by simp; omega)

/-- As many DEQUEUEs as handles held return them in order and leave the queue empty. -/
theorem State.Holds.afterOps_dequeues {held : List Handle} {s : State} (h : s.Holds held) :
    (afterOps (List.replicate held.length .dequeue) s).Holds [] ∧
      (afterOps (List.replicate held.length .dequeue) s).returned = s.returned ++ held ∧
      (afterOps (List.replicate held.length .dequeue) s).fault = s.fault := by
  induction held generalizing s with
  | nil => simpa using h
  | cons x held ih =>
    obtain ⟨hheld, hret, hfault⟩ := h.taking_dequeue
    obtain ⟨hempty, hrets, hfaults⟩ := ih hheld
    exact ⟨hempty, by simpa [List.replicate_succ, hret] using hrets, hfaults.trans hfault⟩

/-- The operations of the queue are always enabled (30_encoding.md R76). -/
theorem enabledInTurn_queueOps {ops : List Instr} (hops : ∀ i ∈ ops, i = .dequeue ∨ ∃ h, i = .enqueue h) (s : State) :
    EnabledInTurn ops s := by
  induction ops generalizing s with
  | nil => trivial
  | cons i ops ih =>
    refine ⟨?_, ih (fun j hj => hops j (List.mem_cons_of_mem _ hj)) _⟩
    obtain rfl | ⟨h, rfl⟩ := hops i List.mem_cons_self <;> rfl

/-- Settles O33: the order holds along any operations on the queue; and P_QCAP handles fill an empty queue, which as many DEQUEUEs
empty. -/
theorem queueIsFirstInFirstOut : Obligations.QueueIsFirstInFirstOut := by
  refine ⟨fun s t ops rest hw hi hn hf hops hs hr ht => ?_, fun s hs rest hw hi hn hlen hsched => ?_⟩
  · obtain ⟨-, rfl⟩ := eq_afterOps_of_runSteps hs hr
    exact afterOps_firstInFirstOut hops (State.holds_nil hi hn) ht
  · obtain ⟨hheld, hret, hfault⟩ := (State.holds_nil hi hn).afterOps_enqueues (hs := hs) (by simp [hlen])
    obtain ⟨hempty, hrets, hfaults⟩ := hheld.afterOps_dequeues
    rw [List.nil_append, hlen, ← afterOps_append] at hempty hrets hfaults
    refine ⟨_, ?_, hrets.trans (by rw [hret]), hempty.qCount, hfaults.trans hfault⟩
    have hturn : EnabledInTurn (hs.map .enqueue ++ List.replicate s.config.qcap .dequeue) s :=
      enabledInTurn_queueOps (fun i hi => (List.mem_append.1 hi).symm.imp List.eq_of_mem_replicate fun hm => by
        obtain ⟨h, -, rfl⟩ := List.mem_map.1 hm
        exact ⟨h, rfl⟩) s
    rw [← runSteps_afterOps hw hsched hturn]
    simp [hlen, Nat.two_mul]

/-! ### The transfer of the frame buffer -/

/-- The frame's addresses do not wrap (00_scope.md R9; 20_memory.md R65). -/
theorem frameBase_add_toNat {c : Config} (hw : c.WellFormed) {n : Nat} (hn : n < 11) :
    (c.frameBase + BitVec.ofNat 32 n).toNat = c.frameBase.toNat + n := by
  obtain ⟨-, -, -, -, -, hbase, -⟩ := (Config.wellFormed_iff _).1 hw
  rw [BitVec.toNat_add, BitVec.toNat_ofNat, Nat.mod_eq_of_lt (by omega : n < 2 ^ 32)]
  exact Nat.mod_eq_of_lt (by omega)

/-- The address after the `n`-th from a handle is the next one. -/
theorem handle_add_succ (h : Handle) (n : Nat) : h + BitVec.ofNat 32 n + 1 = h + BitVec.ofNat 32 (n + 1) := by
  rw [BitVec.add_assoc, BitVec.ofNat_add]
  rfl

/-- The block determines every byte of the frame (20_memory.md R51). -/
theorem State.exists_frame (s : State) {n : Nat} (hn : n < 11) : ∃ b, s.frame n = some b :=
  Option.ne_none_iff_exists'.1 ((frameBufferIsAllTheBlockDetermines s _).2 (by omega))

theorem enabledInTurn_ebytes {n : Nat} {s : State} (hn : n ≤ s.txRem) : EnabledInTurn (Instr.ebytes n) s := by
  induction n generalizing s with
  | zero => trivial
  | succ n ih =>
    refine ⟨by simpa [enabled] using Nat.zero_lt_of_lt hn, ih ?_⟩
    rw [State.taking, effectOf, State.engineByte_txRem]
    exact Nat.le_sub_one_of_lt hn

/-- ENGINE_BYTEs from the frame's byte `j` on move the next bytes of the frame, one by one, and raise the completion when none is
left to move. -/
theorem afterOps_ebytes {n j : Nat} {s : State} (hw : s.config.WellFormed)
    (hptr : s.txPtr = s.config.frameBase + BitVec.ofNat 32 j) (hin : j + n ≤ 11) :
    ∃ bs : List Byte, bs.length = n ∧ (∀ i < n, s.frame (j + i) = bs[i]?) ∧
      afterOps (Instr.ebytes n) s = { s with
        schedule := s.schedule.drop n, txOut := s.txOut ++ bs, txPtr := s.config.frameBase + BitVec.ofNat 32 (j + n)
        txRem := s.txRem - n, tcPend := s.tcPend || decide (0 < n ∧ s.txRem ≤ n) } := by
  induction n generalizing s j with
  | zero => exact ⟨[], rfl, nofun, by simp [Instr.ebytes, ← hptr]⟩
  | succ n ih =>
    obtain ⟨b, hb⟩ := s.exists_frame (n := j) (by omega)
    have hread : s.readByte s.txPtr.toNat = some b := by
      rw [hptr, frameBase_add_toNat hw (by omega)]
      exact hb
    have hfirst : s.taking .engineByte = { s with
        schedule := s.schedule.tail, txOut := s.txOut ++ [b], txPtr := s.config.frameBase + BitVec.ofNat 32 (j + 1)
        txRem := s.txRem - 1, tcPend := s.tcPend || decide (s.txRem - 1 = 0) } := by
      rw [← handle_add_succ, ← hptr]
      exact State.engineByte_inside (s := { s with schedule := s.schedule.tail }) hread
    obtain ⟨bs, hlen, hbytes, heq⟩ := ih (s := s.taking .engineByte) (j := j + 1) (by rwa [State.taking_config])
      (by rw [hfirst]) (by omega)
    refine ⟨b :: bs, by simp [hlen], fun i hi => ?_, ?_⟩
    · cases i with
      | zero => exact hb
      | succ i =>
        rw [List.getElem?_cons_succ, ← hbytes i (by omega), hfirst, Nat.add_assoc, Nat.add_comm 1 i]
        rfl
    · have hleft : s.txRem - 1 = 0 ∨ 0 < n ∧ s.txRem - 1 ≤ n ↔ 0 < n + 1 ∧ s.txRem ≤ n + 1 := by omega
      rw [Instr.ebytes, List.replicate_succ, afterOps_cons]
      refine heq.trans ?_
      simp only [hfirst, List.drop_tail, List.append_assoc, List.singleton_append, Nat.sub_sub, Bool.or_assoc,
        ← Bool.decide_or, hleft, Nat.add_assoc, Nat.add_comm 1 n]

/-- Settles O39: the transfer starts at the frame's byte 0 and has eleven bytes to move. -/
theorem elevenByteStepsSendTheFrame : Obligations.ElevenByteStepsSendTheFrame := by
  intro s rest hw hrem hptr hs
  obtain ⟨-, -, -, -, -, -, hlen⟩ := (Config.wellFormed_iff _).1 hw
  obtain ⟨bs, hbs, hbytes, heq⟩ := afterOps_ebytes (n := 11) (j := 0) hw (by simpa using hptr) (by omega)
  refine ⟨bs, hbs, by simpa using hbytes, ?_⟩
  have hrun : runSteps 11 s = .next (afterOps (Instr.ebytes 11) s) :=
    runSteps_afterOps hw hs (enabledInTurn_ebytes (by omega))
  have hdrop : s.schedule.drop 11 = rest := by rw [hs]; rfl
  rw [heq, hdrop] at hrun
  simpa [hrem, hlen] using hrun

/-! ### What each operation does to a transfer -/

/-- The transfer in flight and TXOUT are as they were. -/
def State.SameTransfer (s t : State) : Prop := t.txRem = s.txRem ∧ t.txPtr = s.txPtr ∧ t.txOut = s.txOut

/-- A transfer from `h` has started, where no byte was left to move. -/
def State.StartsTransfer (s t : State) (h : Handle) : Prop :=
  s.txRem = 0 ∧ t.txRem = 11 ∧ t.txPtr = h ∧ t.txOut = s.txOut

/-- ENGINE_START starts a transfer or leaves the engine (R164). -/
theorem State.engineStart_transfer {s : State} (hw : s.config.WellFormed) (h : Handle) :
    s.SameTransfer (s.engineStart h) ∨ s.StartsTransfer (s.engineStart h) h := by
  obtain ⟨-, -, -, -, -, -, hlen⟩ := (Config.wellFormed_iff _).1 hw
  by_cases hb : s.txRem ≠ 0 ∨ s.tcPend = true
  · rw [State.engineStart_busy hb]; exact .inl ⟨rfl, rfl, rfl⟩
  · obtain ⟨hr, ht⟩ := not_or.1 hb
    rw [State.engineStart_idle (not_not.1 hr) (Bool.eq_false_iff.2 ht)]
    exact .inr ⟨not_not.1 hr, hlen, rfl, rfl⟩

/-- SUBMIT starts a transfer or leaves the engine (R163). -/
theorem State.submit_transfer {s : State} (hw : s.config.WellFormed) (h : Handle) :
    s.SameTransfer (s.submit h) ∨ s.StartsTransfer (s.submit h) h := by
  rcases State.submit_cases s h with hs | hs <;> rw [hs]
  · exact State.engineStart_transfer hw h
  · exact .inl ⟨by simp, by simp, by simp⟩

/-- CMP_ISR starts a transfer of the frame or leaves the engine (41_scheduler.md R134). -/
theorem State.compareHandler_transfer {s : State} (hw : s.config.WellFormed) :
    s.SameTransfer s.compareHandler ∨ s.StartsTransfer s.compareHandler s.config.frameBase := by
  rw [State.compareHandler_eq]
  simpa [State.SameTransfer, State.StartsTransfer] using State.submit_transfer
    (s := { ({ s with cmpPend := false } : State).beginRead s.config.regY with mem := (s.format .y s.latY).mem })
    (by simpa using hw) s.config.frameBase

/-- TC_ISR starts a transfer of the oldest handle queued or leaves the engine's transfer (R166). -/
theorem State.transferComplete_transfer {s : State} (hw : s.config.WellFormed) :
    s.SameTransfer s.transferComplete ∨ 0 < s.qCount ∧ s.StartsTransfer s.transferComplete (s.entry s.qHead) := by
  by_cases hn : s.qCount = 0
  · rw [State.transferComplete_empty hn]; exact .inl ⟨rfl, rfl, rfl⟩
  · rw [State.transferComplete_held hn]
    exact (State.engineStart_transfer
      (s := { s with tcPend := false, qHead := (s.qHead + 1) % s.config.qcap, qCount := s.qCount - 1 }) hw _).imp id
      fun hstart => ⟨Nat.pos_of_ne_zero hn, hstart⟩

/-- The operation starts transfers from `h`: it is given `h`, or submits the frame, or takes the oldest handle queued. -/
def StartsFrom (i : Instr) (s : State) (h : Handle) : Prop :=
  i = .engineStart h ∨ i = .submit h ∨ (i = .cmpIsr ∧ h = s.config.frameBase) ∨
    (i = .tcIsr ∧ 0 < s.qCount ∧ h = s.entry s.qHead)

/-- Every operation but RESET and ENGINE_BYTE leaves the transfer in flight, or starts one where there is none (R163-R167). -/
theorem effectOf_transfer {i : Instr} {s : State} (hw : s.config.WellFormed) (hr : i ≠ .reset) (hb : i ≠ .engineByte) :
    s.SameTransfer (effectOf i s) ∨ ∃ h, s.StartsTransfer (effectOf i s) h ∧ StartsFrom i s h := by
  cases i
  case reset => exact absurd rfl hr
  case engineByte => exact absurd rfl hb
  case engineStart h => exact (State.engineStart_transfer hw h).imp id fun hs => ⟨h, hs, .inl rfl⟩
  case submit h => exact (State.submit_transfer hw h).imp id fun hs => ⟨h, hs, .inr (.inl rfl)⟩
  case cmpIsr => exact (State.compareHandler_transfer hw).imp id fun hs => ⟨_, hs, .inr (.inr (.inl ⟨rfl, rfl⟩))⟩
  case tcIsr =>
    exact (State.transferComplete_transfer hw).imp id fun ⟨hn, hs⟩ => ⟨_, hs, .inr (.inr (.inr ⟨rfl, hn, rfl⟩))⟩
  all_goals exact .inl ⟨by simp [effectOf], by simp [effectOf], by simp [effectOf]⟩

/-- With bytes of a transfer still to move, the byte after those moved is one further. -/
theorem handle_add_moved_succ (h : Handle) {r : Nat} (hpos : 0 < r) (hle : r ≤ 11) :
    h + BitVec.ofNat 32 (11 - r) + 1 = h + BitVec.ofNat 32 (11 - (r - 1)) := by
  rw [handle_add_succ]
  congr 2
  omega

/-- Settles O40: ENGINE_BYTE moves the byte at TX_PTR; every other operation leaves the transfer or starts one where none is. -/
theorem transfersAreWhole : Obligations.TransfersAreWhole := by
  intro i s t h hr
  obtain ⟨hw, hen, rfl⟩ := exec_eq_next.1 h
  by_cases hi : i = .engineByte
  · subst hi
    have hpos : 0 < s.txRem := by simpa [enabled] using hen
    obtain ⟨b, n, hread, -, heq⟩ := s.engineByte_eq
    rw [effectOf, heq]
    refine ⟨fun h _ hle hptr => ⟨?_, ?_⟩, fun hzero => absurd hzero hpos.ne', fun hwhole => ?_⟩
    · rw [hptr]; exact handle_add_moved_succ h hpos hle
    · rw [if_pos rfl, ← hptr]
      exact ⟨rfl, b, rfl, fun x hx => (hread x hx).1⟩
    · rw [List.length_append, List.length_singleton, ← hwhole]
      congr 1
      show s.txOut.length + 1 + (s.txRem - 1) = s.txOut.length + s.txRem
      omega
  · obtain ⟨hrem, hptr, hout⟩ | ⟨h, ⟨hzero, hrem, hptr, hout⟩, hfrom⟩ := effectOf_transfer hw hr hi
    · rw [hrem, hptr, hout]
      exact ⟨fun h _ _ hat => ⟨hat, by rw [if_neg hi]; exact ⟨rfl, rfl⟩⟩, fun hzero => ⟨rfl, .inl ⟨hzero, rfl⟩⟩, id⟩
    · rw [hrem, hptr, hout, hzero]
      exact ⟨fun _ hpos => absurd hpos (Nat.lt_irrefl 0), fun _ => ⟨rfl, .inr ⟨rfl, hfrom⟩⟩,
        fun hwhole => by simpa using hwhole⟩

/-! ### A transfer among other steps -/

/-- A transfer from `h` that started with TXOUT `base` bytes long has moved all but TX_REM of its eleven bytes. -/
def State.InTransfer (s : State) (h : Handle) (base : Nat) : Prop :=
  s.txRem ≤ 11 ∧ s.txPtr = h + BitVec.ofNat 32 (11 - s.txRem) ∧ s.txOut.length + s.txRem = base + 11

/-- An ENGINE_BYTE step from `u` to `v` hands over `b`, read at TX_PTR; the last byte to move raises the completion. -/
def MovesByte (u v : State) (b : Byte) : Prop :=
  u.nextOp = some .engineByte ∧ step u = .next v ∧ v.txOut = u.txOut ++ [b] ∧
    (∀ x, u.readByte u.txPtr.toNat = some x → b = x) ∧ (u.txRem = 1 → v.txRem = 0 ∧ v.tcPend = true)

/-- A step without a RESET, with bytes to move, goes on with the transfer: it leaves TXOUT or moves the next byte. -/
theorem State.InTransfer.step {s t : State} {h : Handle} {base : Nat} (hs : s.InTransfer h base) (hpos : 0 < s.txRem)
    (hnr : noResetStep s = true) (hstep : step s = .next t) :
    t.InTransfer h base ∧ (t.txOut = s.txOut ∨ ∃ b, MovesByte s t b) := by
  obtain ⟨hle, hptr, hlen⟩ := hs
  obtain ⟨hw, w, ws, -, ⟨i, hop, hen, rfl⟩ | ⟨-, rfl⟩⟩ := step_effect hstep
  · have hr : i ≠ .reset := by simpa [noResetStep, hop] using hnr
    by_cases hi : i = .engineByte
    · subst hi
      obtain ⟨b, n, hread, -, heq⟩ := State.engineByte_eq { s with schedule := ws }
      rw [effectOf, heq] at hstep ⊢
      refine ⟨⟨?_, ?_, ?_⟩, .inr ⟨b, hop, hstep, rfl, fun x hx => (hread x hx).1, fun hlast => ?_⟩⟩
      · show s.txRem - 1 ≤ 11; omega
      · show s.txPtr + 1 = _
        rw [hptr]; exact handle_add_moved_succ h hpos hle
      · show (s.txOut ++ [b]).length + (s.txRem - 1) = base + 11
        rw [List.length_append, List.length_singleton]; omega
      · simp [hlast]
    · obtain ⟨hrem, hat, hout⟩ | ⟨_, ⟨hzero, -⟩, -⟩ := effectOf_transfer (s := { s with schedule := ws }) hw hr hi
      · unfold State.InTransfer
        rw [hrem, hat, hout]
        exact ⟨⟨hle, hptr, hlen⟩, .inl rfl⟩
      · exact absurd hzero hpos.ne'
  · exact ⟨⟨hle, hptr, hlen⟩, .inl rfl⟩

/-- A run only appends to TXOUT (10_state.md R35). -/
theorem runSteps_txOut_append {k : Nat} {s t : State} (hr : runSteps k s = .next t) : ∃ bytes, t.txOut = s.txOut ++ bytes := by
  induction k generalizing s with
  | zero => cases hr; exact ⟨[], (List.append_nil _).symm⟩
  | succ k ih =>
    obtain ⟨u, hu, hrest⟩ := runSteps_succ_inv hr
    obtain ⟨-, bytes, -, hfirst⟩ := tracesOnlyGrow.2 s u hu
    obtain ⟨bytes', hafter⟩ := ih hrest
    exact ⟨bytes ++ bytes', by rw [hafter, hfirst, List.append_assoc]⟩

/-- Byte `m` of the transfer from `h` is `b`, moved by a step of the run within its first `k`, at `h + m`. -/
def MovedInRun (h : Handle) (base k : Nat) (s : State) (m : Nat) (b : Byte) : Prop :=
  ∃ (n : Nat) (u v : State), n < k ∧ runSteps n s = .next u ∧ MovesByte u v b ∧ u.InTransfer h base ∧
    u.txOut.length = base + m

/-- A byte moved in the rest of a run is moved in the run. -/
theorem MovedInRun.of_step {h : Handle} {base k m : Nat} {s u : State} {b : Byte} (hmoved : MovedInRun h base k u m b)
    (hu : step s = .next u) : MovedInRun h base (k + 1) s m b := by
  obtain ⟨n, v, w, hn, hrun, hrest⟩ := hmoved
  exact ⟨n + 1, v, w, Nat.succ_lt_succ hn, (runSteps_succ_next n hu).trans hrun, hrest⟩

/-- Every byte of a transfer that is on TXOUT after a run without a RESET, and was not before it, was moved in the run. -/
theorem State.InTransfer.movedInRun {k : Nat} {s t : State} {h : Handle} {base m : Nat} {b : Byte}
    (hs : s.InTransfer h base) (hP : runHolds noResetStep k s = true) (hr : runSteps k s = .next t) (hm : m < 11)
    (hnew : s.txOut.length ≤ base + m) (hb : t.txOut[base + m]? = some b) : MovedInRun h base k s m b := by
  induction k generalizing s with
  | zero =>
    cases hr
    rw [List.getElem?_eq_none hnew] at hb
    cases hb
  | succ k ih =>
    obtain ⟨u, hu, hrest⟩ := runSteps_succ_inv hr
    simp only [runHolds, hu, Bool.and_eq_true] at hP
    obtain ⟨hnr, hPrest⟩ := hP
    have hpos : 0 < s.txRem := by
      obtain ⟨-, -, hlen⟩ := hs
      omega
    obtain ⟨hnext, hsame | ⟨c, hmoves⟩⟩ := hs.step hpos hnr hu
    · exact (ih hnext hPrest hrest (hsame ▸ hnew)).of_step hu
    · obtain ⟨-, -, hout, -⟩ := id hmoves
      by_cases hat : s.txOut.length = base + m
      · obtain ⟨bytes, hgrown⟩ := runSteps_txOut_append hrest
        obtain rfl : c = b := by simpa [hgrown, hout, ← hat] using hb
        exact ⟨0, s, u, Nat.succ_pos k, rfl, hmoves, hs, hat⟩
      · exact (ih hnext hPrest hrest (by rw [hout, List.length_append, List.length_singleton]; omega)).of_step hu

/-- Settles O59: at the start no byte is moved, and the length of TXOUT tells which byte a step of the transfer moves. -/
theorem everyTransferMovesItsElevenBytes : Obligations.EveryTransferMovesItsElevenBytes := by
  intro h k s t hrem hptr hP hr m b hm hb
  have hs : s.InTransfer h s.txOut.length := by simp [State.InTransfer, hrem, hptr]
  obtain ⟨n, u, v, hn, hrun, ⟨hop, hstep, hout, hread, hlast⟩, ⟨hle, hat, hlen⟩, hlength⟩ :=
    hs.movedInRun hP hr hm (Nat.le_add_right _ m) hb
  have hplace : 11 - u.txRem = m := by omega
  exact ⟨n, u, v, hn, hrun, hop, hstep, hlength, hout, hplace ▸ hat, hread, fun hten => hlast (by omega)⟩

/-! ### One frame behind every handle -/

/-- Every handle queued is the frame's, and a transfer in flight is of the frame (R168). -/
def State.OfTheFrame (s : State) : Prop :=
  s.Inv ∧ (∀ h ∈ s.contents, h = s.config.frameBase) ∧
    (0 < s.txRem → s.txPtr = s.config.frameBase + BitVec.ofNat 32 (11 - s.txRem))

theorem State.OfTheFrame.txRem_le {s : State} (hs : s.OfTheFrame) : s.txRem ≤ 11 := by
  obtain ⟨⟨hw, -, ⟨-, -, -, -, hle⟩, -⟩, -⟩ := hs
  obtain ⟨-, -, -, -, -, -, hlen⟩ := (Config.wellFormed_iff _).1 hw
  exact hlen ▸ hle

/-- During a transfer TX_PTR is P_FRAME_BASE plus the bytes already moved. -/
theorem State.OfTheFrame.txPtr_toNat {s : State} (hs : s.OfTheFrame) (hpos : 0 < s.txRem) :
    s.txPtr.toNat = s.config.frameBase.toNat + (11 - s.txRem) := by
  obtain ⟨⟨hw, -⟩, -, hptr⟩ := hs
  rw [hptr hpos, frameBase_add_toNat hw (by omega)]

/-- The engine reads a byte of the frame, so it makes no draw (20_memory.md R53). -/
theorem State.OfTheFrame.engineByte_draws {s : State} (hs : s.OfTheFrame) (hpos : 0 < s.txRem) :
    s.engineByte.draws = s.draws := by
  obtain ⟨b, hb⟩ := s.exists_frame (n := 11 - s.txRem) (by omega)
  rw [State.frame, ← hs.txPtr_toNat hpos] at hb
  rw [State.engineByte_inside hb]

/-- Only ENGINE_BYTE counts draws, and in the frame it counts none. -/
theorem effectOf_draws {i : Instr} {s : State} (hs : s.OfTheFrame) (hen : enabled i s = true) :
    (effectOf i s).draws = s.draws := by
  cases i
  case engineByte => exact hs.engineByte_draws (by simpa [enabled] using hen)
  all_goals simp [effectOf]

/-- The oldest handle is among those the queue holds. -/
theorem State.entry_head_mem_contents {s : State} (hi : s.QueueInv) (hn : 0 < s.qCount) :
    s.entry s.qHead ∈ s.contents :=
  List.mem_map.2 ⟨0, List.mem_range.2 hn, by rw [Nat.add_zero, Nat.mod_eq_of_lt hi.2.1]⟩

/-- A system operation that starts transfers starts the frame's: it is CMP_ISR, or TC_ISR with a handle queued. -/
theorem StartsFrom.eq_frameBase {i : Instr} {s : State} {h : Handle} (hfrom : StartsFrom i s h) (hs : s.OfTheFrame)
    (hsys : i.isUnit = false) : h = s.config.frameBase := by
  obtain ⟨⟨-, hi, -⟩, hheld, -⟩ := hs
  obtain rfl | rfl | ⟨-, hh⟩ | ⟨-, hn, rfl⟩ := hfrom
  · cases hsys
  · cases hsys
  · exact hh
  · exact hheld _ (State.entry_head_mem_contents hi hn)

/-- Every system operation, RESET among them, keeps the frame behind every handle. -/
theorem effectOf_ofTheFrame {i : Instr} {s : State} (hs : s.OfTheFrame) (hen : enabled i s = true)
    (hsys : i.isUnit = false) : (effectOf i s).OfTheFrame := by
  obtain ⟨hinv, hheld, hptr⟩ := id hs
  have ⟨hw, _⟩ := hinv
  refine ⟨effectOf_inv hen hinv, ?_⟩
  by_cases hr : i = .reset
  · subst hr
    simp [effectOf, State.contents]
  · rw [effectOf_config]
    refine ⟨effectOf_queuesFrame hinv hheld hen hsys hr, fun hleft => ?_⟩
    obtain ⟨hgoes, hstarts, -⟩ := transfersAreWhole i s _ (exec_next hw hen) hr
    obtain hzero | hpos := Nat.eq_zero_or_pos s.txRem
    · obtain ⟨-, ⟨hnone, -⟩ | ⟨hrem, hfrom⟩⟩ := hstarts hzero
      · exact absurd hnone hleft.ne'
      · rw [StartsFrom.eq_frameBase hfrom hs hsys, hrem]
        simp
    · exact (hgoes _ hpos hs.txRem_le (hptr hpos)).1

/-- A system step keeps the frame behind every handle and counts no draw. -/
theorem State.OfTheFrame.step {s t : State} (hs : s.OfTheFrame) (hsys : systemStep s = true) (h : step s = .next t) :
    t.OfTheFrame ∧ t.draws = s.draws := by
  obtain ⟨-, w, ws, -, ⟨i, hop, hen, rfl⟩ | ⟨hop, -⟩⟩ := step_effect h
  · have hunit : i.isUnit = false := by simpa [systemStep, hop] using hsys
    have hs' : ({ s with schedule := ws } : State).OfTheFrame := hs
    exact ⟨effectOf_ofTheFrame hs' hen hunit, effectOf_draws hs' hen⟩
  · simp [systemStep, hop] at hsys

/-- A clean launch holds no handle and has no transfer in flight. -/
theorem State.LaunchClean.ofTheFrame {s : State} (h : s.LaunchClean) : s.OfTheFrame := by
  refine ⟨h.inv, ?_⟩
  obtain ⟨-, -, hs⟩ := h
  rw [hs]
  simp [State.contents, State.launch]

/-- Settles O42: the frame is behind every handle at a clean launch and along the run, and no step counts a draw. -/
theorem queuedHandlesAliasTheOneFrame : Obligations.QueuedHandlesAliasTheOneFrame := by
  intro k s t hs hP hr
  obtain ⟨ht, hdraws⟩ : t.OfTheFrame ∧ t.draws = s.draws := runSteps_induction
    (Q := fun u => u.OfTheFrame ∧ u.draws = s.draws)
    (fun u v ⟨hu, hud⟩ hsys hstep => by
      obtain ⟨hv, hvd⟩ := hu.step hsys hstep
      exact ⟨hv, hvd.trans hud⟩)
    ⟨hs.ofTheFrame, rfl⟩ hP hr
  obtain ⟨⟨hw, -⟩, hheld, -⟩ := id ht
  obtain ⟨-, -, -, -, -, -, hlen⟩ := (Config.wellFormed_iff _).1 hw
  exact ⟨hheld, hdraws, hlen ▸ ht.txPtr_toNat⟩

end Sys2Proof.Machine

/-! The proofs of 60_exceptions.md: which operation raises which model fault (R200-R204, R211), the good states of a system-mode run
(70_reset_and_hazards.md R235), and the quiet block before TIMER_START (R208). -/

namespace Sys2Proof.Machine

/-! ### FAULT after each operation that can raise a model fault -/

/-- BEGIN_READ raises F_ORDER outside IDLE alone (R201). -/
theorem State.beginRead_fault (s : State) (r : Byte) :
    (s.beginRead r).fault = if s.tstate ≠ .idle then s.fault ||| 0b0001#4 else s.fault := by
  by_cases h : s.tstate = .idle
  · simp [State.beginRead_idle h, h]
  · simp [State.beginRead_busy h, h]

/-- UPD_ISR raises what its BEGIN_READ does (41_scheduler.md R133). -/
theorem State.updateHandler_fault (s : State) :
    s.updateHandler.fault = if s.tstate ≠ .idle then s.fault ||| 0b0001#4 else s.fault := by
  rw [State.updateHandler_eq]
  exact State.beginRead_fault _ _

/-- SUBMIT raises none under the engine's invariants: it starts a transfer on a free engine alone (43_queue_dispatch.md R163). -/
theorem State.submit_fault {s : State} (hi : s.EngineInv) (h : Handle) : (s.submit h).fault = s.fault := by
  rw [State.submit_eq hi]
  split
  · rfl
  · split <;> rfl

/-- CMP_ISR raises what its BEGIN_READ does, and its SUBMIT adds nothing (41_scheduler.md R134). -/
theorem State.compareHandler_fault {s : State} (hi : s.EngineInv) :
    s.compareHandler.fault = if s.tstate ≠ .idle then s.fault ||| 0b0001#4 else s.fault := by
  rw [State.compareHandler_eq, State.submit_fault
    ((State.engineInv_congr (by simp) (by simp) (by simp) (by simp)).2 hi)]
  exact State.beginRead_fault _ _

/-- DEQUEUE raises F_QEMPTY on an empty queue alone (R202). -/
theorem State.dequeueLabelled_fault (s : State) :
    s.dequeueLabelled.fault = if s.qCount = 0 then s.fault ||| 0b0010#4 else s.fault := by
  by_cases h : s.qCount = 0
  · simp [State.dequeueLabelled_empty h, h]
  · simp [State.dequeueLabelled_held h, h]

/-- ENGINE_START raises F_ENGBUSY on an engine that is not free alone (R204). -/
theorem State.engineStart_fault (s : State) (h : Handle) :
    (s.engineStart h).fault = if s.txRem ≠ 0 ∨ s.tcPend = true then s.fault ||| 0b1000#4 else s.fault := by
  by_cases hb : s.txRem ≠ 0 ∨ s.tcPend = true
  · rw [State.engineStart_busy hb, if_pos hb]
  · obtain ⟨hr, ht⟩ := not_or.1 hb
    rw [State.engineStart_idle (not_not.1 hr) (Bool.eq_false_iff.2 ht), if_neg hb]

/-- TC_ISR raises none once the last byte has moved: it has consumed the completion when it starts the next transfer, and it
dequeues from a queue that holds a handle (43_queue_dispatch.md R166). -/
theorem State.transferComplete_fault {s : State} (hr : s.txRem = 0) : s.transferComplete.fault = s.fault := by
  by_cases h : s.qCount = 0
  · rw [State.transferComplete_empty h]
  · rw [State.transferComplete_held h, State.engineStart_fault]
    simp [hr]

/-- FAULT differs from what it was where the condition of a fault is met, and it is then what the fault makes of it. -/
theorem raised_of_ne {p : Prop} [Decidable p] {before raised after : BitVec 4}
    (hafter : after = if p then raised else before) (hne : after ≠ before) : after = raised ∧ p := by
  obtain ⟨hp, -⟩ := ite_ne_right_iff.1 (hafter ▸ hne)
  exact ⟨hafter.trans (if_pos hp), hp⟩

/-- Settles O45: FAULT after each operation that can raise a model fault; the others leave it. -/
theorem faultsHaveOnlyTheirCauses : Obligations.FaultsHaveOnlyTheirCauses := by
  intro i s t hi h hne
  obtain ⟨-, hen, rfl⟩ := exec_eq_next.1 h
  cases i
  case beginRead r =>
    obtain ⟨hf, hbusy⟩ := raised_of_ne (State.beginRead_fault s r) hne
    exact .inl ⟨hf, hbusy, by simp [opcodeOf]⟩
  case updIsr =>
    obtain ⟨hf, hbusy⟩ := raised_of_ne (State.updateHandler_fault s) hne
    exact .inl ⟨hf, hbusy, by simp [opcodeOf]⟩
  case cmpIsr =>
    obtain ⟨hf, hbusy⟩ := raised_of_ne (State.compareHandler_fault hi) hne
    exact .inl ⟨hf, hbusy, by simp [opcodeOf]⟩
  case dequeue =>
    obtain ⟨hf, hempty⟩ := raised_of_ne (State.dequeueLabelled_fault s) hne
    exact .inr (.inl ⟨hf, hempty, rfl⟩)
  case engineStart x =>
    obtain ⟨hf, hbusy⟩ := raised_of_ne (State.engineStart_fault s x) hne
    exact .inr (.inr ⟨hf, hbusy, rfl⟩)
  case submit x => exact absurd (State.submit_fault hi x) hne
  case tcIsr =>
    obtain ⟨-, hdone, -⟩ := hi
    obtain ⟨-, hr⟩ := hdone hen
    exact absurd (State.transferComplete_fault hr) hne
  all_goals exact absurd (by simp [effectOf]) hne

/-! ### Good states -/

/-- A system operation leaves FAULT when it is no timer handler outside IDLE: of the causes only F_ORDER's is one of system mode. -/
theorem effectOf_fault_of_system {i : Instr} {s : State} (hw : s.config.WellFormed) (hi : s.EngineInv)
    (hen : enabled i s = true) (hsys : i.isUnit = false) (hidle : i = .updIsr ∨ i = .cmpIsr → s.tstate = .idle) :
    (effectOf i s).fault = s.fault := by
  by_contra hne
  obtain ⟨-, hbusy, hop⟩ | ⟨-, -, rfl⟩ | ⟨-, -, hop⟩ := faultsHaveOnlyTheirCauses i s _ hi (exec_next hw hen) hne
  · cases i <;> simp [opcodeOf] at hop
    case beginRead r => cases hsys
    case updIsr => exact hbusy (hidle (.inl rfl))
    case cmpIsr => exact hbusy (hidle (.inr rfl))
  · cases hsys
  · cases i <;> cases hop
    cases hsys

theorem State.LaunchClean.good {s : State} (h : s.LaunchClean) : s.Good := by
  obtain ⟨-, -, hs⟩ := h
  exact congrArg State.fault hs

/-- Settles O58: every step keeps the invariants, and under them a system operation taken with `TransactionsComplete` leaves
FAULT. -/
theorem everySystemStepKeepsTheStateGood : Obligations.EverySystemStepKeepsTheStateGood := by
  refine ⟨fun s h => ⟨h.inv, h.good⟩, fun s t hi hgood hsys hcomplete h => ?_⟩
  refine ⟨everyStepKeepsTheInvariants s t hi h, ?_⟩
  obtain ⟨hw, w, ws, -, ⟨i, hop, hen, rfl⟩ | ⟨hop, -⟩⟩ := step_effect h
  · obtain ⟨-, -, hengine, -⟩ := hi
    have hunit : i.isUnit = false := by simpa [systemStep, hop] using hsys
    have hidle : i = .updIsr ∨ i = .cmpIsr → s.tstate = .idle := by
      rintro (rfl | rfl) <;> simpa [transactionsCompleteStep, hop] using hcomplete
    exact (effectOf_fault_of_system (s := { s with schedule := ws }) hw hengine hen hunit hidle).trans hgood
  · simp [systemStep, hop] at hsys

/-! ### Before TIMER_START -/

@[simp] theorem State.timerStart_timEn (s : State) : s.timerStart.timEn = true := by rw [State.timerStart_eq]

/-- Only TIMER_START and RESET write TIM_EN (10_state.md R26). -/
theorem effectOf_timEn {i : Instr} (hr : i ≠ .reset) (hstart : i ≠ .timerStart) (s : State) :
    (effectOf i s).timEn = s.timEn := by
  cases i
  case reset => exact absurd rfl hr
  case timerStart => exact absurd rfl hstart
  all_goals simp [effectOf]

/-- No timer condition is pending, no transaction and no transfer is in flight, and no completion is unconsumed. -/
def State.NothingInFlight (s : State) : Prop :=
  s.updPend = false ∧ s.cmpPend = false ∧ s.tstate = .idle ∧ s.engBusy = false ∧ s.tcPend = false ∧ s.txRem = 0

/-- A bus event in IDLE takes the fallback, which stays in IDLE (R208; 40_bus_fsm.md R101, R108). -/
theorem State.busEvent_idle {s : State} (h : s.tstate = .idle) (f : BitVec 4) (d : Byte) :
    s.busEvent f d = { s with busCmd := s.busCmd ++ [0x0200#16] } := by
  rw [State.busEvent_of_not_rowTaken (by rw [h]; rfl), State.fallback_eq, ← h]

/-- While the timer is not started, a system operation but TIMER_START leaves nothing in flight: the timer, its handlers, the engine
and TC_ISR are not enabled. -/
theorem effectOf_nothingInFlight {i : Instr} {s : State} (hs : s.NothingInFlight) (hoff : s.timEn = false)
    (hen : enabled i s = true) (hsys : i.isUnit = false) (hstart : i ≠ .timerStart) : (effectOf i s).NothingInFlight := by
  obtain ⟨hupd, hcmp, hidle, -, htc, hrem⟩ := id hs
  cases i
  case reset => simp [State.NothingInFlight, effectOf]
  case timerStart => exact absurd rfl hstart
  case busEvent f d => rwa [effectOf, State.busEvent_idle hidle]
  case timerTick => simp [enabled, hoff] at hen
  case updIsr => simp [enabled, pending, hupd] at hen
  case cmpIsr => simp [enabled, pending, hcmp] at hen
  case tcIsr => simp [enabled, pending, htc] at hen
  case engineByte => simp [enabled, hrem] at hen
  all_goals cases hsys

/-- The configuration is well formed, and nothing is in flight unless the timer has been started. -/
def State.QuietUntilStarted (s : State) : Prop :=
  s.config.WellFormed ∧ (s.timEn = false → s.NothingInFlight)

theorem State.LaunchClean.quietUntilStarted {s : State} (h : s.LaunchClean) : s.QuietUntilStarted := by
  obtain ⟨hw, -, hs⟩ := h
  refine ⟨hw, fun _ => ?_⟩
  rw [hs]
  simp [State.NothingInFlight, State.launch]

/-- A system operation keeps the block quiet until the timer is started: only RESET stops a started timer, and it leaves nothing in
flight. -/
theorem effectOf_quietUntilStarted {i : Instr} {s : State} (hs : s.QuietUntilStarted) (hen : enabled i s = true)
    (hsys : i.isUnit = false) : (effectOf i s).QuietUntilStarted := by
  obtain ⟨hw, hquiet⟩ := hs
  refine ⟨by rwa [effectOf_config], fun hoff => ?_⟩
  by_cases hreset : i = .reset
  · subst hreset
    simp [State.NothingInFlight, effectOf]
  · have hstart : i ≠ .timerStart := by
      rintro rfl
      simp [effectOf] at hoff
    have hoff' : s.timEn = false := by rwa [effectOf_timEn hreset hstart] at hoff
    exact effectOf_nothingInFlight (hquiet hoff') hoff' hen hsys hstart

theorem State.QuietUntilStarted.step {s t : State} (hs : s.QuietUntilStarted) (hsys : systemStep s = true)
    (h : step s = .next t) : t.QuietUntilStarted := by
  obtain ⟨-, w, ws, -, ⟨i, hop, hen, rfl⟩ | ⟨hop, -⟩⟩ := step_effect h
  · have hunit : i.isUnit = false := by simpa [systemStep, hop] using hsys
    exact effectOf_quietUntilStarted (s := { s with schedule := ws }) hs hen hunit
  · simp [systemStep, hop] at hsys

/-- Settles O23: the block is quiet until started at a clean launch and along the run, and a bus event that finds IDLE takes the
fallback. -/
theorem nothingIsInFlightBeforeTimerStart : Obligations.NothingIsInFlightBeforeTimerStart := by
  intro k s t hs hP hr hoff
  obtain ⟨hw, hquiet⟩ : t.QuietUntilStarted :=
    runSteps_induction (fun u v hu hsys h => hu.step hsys h) hs.quietUntilStarted hP hr
  obtain ⟨hupd, hcmp, hidle, hbusy, htc, hrem⟩ := hquiet hoff
  refine ⟨hupd, hcmp, hidle, hbusy, htc, hrem, fun f d => ?_⟩
  rw [exec_next hw rfl, effectOf, State.busEvent_idle hidle]

end Sys2Proof.Machine

/-! The proofs of 70_reset_and_hazards.md: RESET (R230), the good states of a system-mode run (R231, R235), and the liveness of the
engine (R243). -/

namespace Sys2Proof.Machine

/-! ### RESET and the good states -/

/-- Settles O48: the word is the encoder's, RESET writes its registers and memory alone, and the store covers the frame buffer. -/
theorem resetEffect : Obligations.ResetEffect := by
  refine ⟨decodeInvertsEncode .reset, fun s hw => ?_⟩
  have hread : ∀ a, ({ s with mem := s.resetBlock.mem } : State).readByte a = s.resetBlock.readByte a :=
    State.readByte_congr s.resetBlock_config.symm rfl
  refine ⟨s.resetBlock.mem, ?_, fun i hi => ?_, fun a ha => ?_⟩
  · exact (exec_next hw rfl).trans (congrArg _ s.resetBlock_frame)
  · have hframe := s.frame_resetBlock hi
    rw [State.frame, State.resetBlock_config] at hframe
    exact (hread _).trans hframe
  · exact (hread a).trans (s.readByte_resetBlock_outside ha)

/-- Settles O46: a clean launch is a good state with the invariants, and each step of the run keeps it one. -/
theorem noFaultWhenTransactionsComplete : Obligations.NoFaultWhenTransactionsComplete := by
  intro k s t hs hP hr
  obtain ⟨hlaunch, hkeeps⟩ := everySystemStepKeepsTheStateGood
  have ht : t.Inv ∧ t.Good := runSteps_induction (Q := fun u => u.Inv ∧ u.Good)
    (fun u v ⟨hinv, hgood⟩ hstep h => by
      obtain ⟨hsys, hcomplete⟩ := Bool.and_eq_true_iff.1 hstep
      exact hkeeps u v hinv hgood hsys hcomplete h)
    (hlaunch s hs) hP hr
  exact ht.symm

/-! ### The engine in an endless run -/

theorem State.SameTransfer.trans {s t u : State} (h : s.SameTransfer t) (h' : t.SameTransfer u) : s.SameTransfer u := by
  obtain ⟨hrem, hptr, hout⟩ := h
  obtain ⟨hrem', hptr', hout'⟩ := h'
  exact ⟨hrem'.trans hrem, hptr'.trans hptr, hout'.trans hout⟩

section EndlessRun

variable {ops : Nat → Option Instr} {states : Nat → State}

/-- A step of an endless run: the operation it names was enabled and had its effect, or an illegal word raised F_RSVD. -/
theorem EndlessRun.step_effect (hrun : EndlessRun ops states) (n : Nat) :
    (states n).config.WellFormed ∧
      ((∃ i, ops n = some i ∧ enabled i (states n) = true ∧ states (n + 1) = effectOf i (states n)) ∨
       (ops n = none ∧ states (n + 1) = (states n).raiseFault .rsvd)) := by
  have hstep := hrun n
  cases hop : ops n with
  | some i =>
    simp only [hop] at hstep
    obtain ⟨hw, hen, heq⟩ := exec_eq_next.1 hstep
    exact ⟨hw, .inl ⟨i, rfl, hen, heq⟩⟩
  | none =>
    simp only [hop] at hstep
    obtain ⟨hw, heq⟩ := performIllegal_eq_next.1 hstep
    exact ⟨hw, .inr ⟨rfl, heq⟩⟩

/-- Without RESET and ENGINE_BYTE a step leaves a transfer in flight alone: no other starts before it is complete. -/
theorem EndlessRun.sameTransfer_succ (hrun : EndlessRun ops states) {n : Nat} (hreset : ops n ≠ some .reset)
    (hbyte : ops n ≠ some .engineByte) (hpos : 0 < (states n).txRem) : (states n).SameTransfer (states (n + 1)) := by
  obtain ⟨hw, ⟨i, hop, -, heq⟩ | ⟨-, heq⟩⟩ := hrun.step_effect n
  · rw [hop] at hreset hbyte
    rw [heq]
    obtain hsame | ⟨_, ⟨hzero, -⟩, -⟩ := effectOf_transfer hw (fun h => hreset (congrArg some h))
      (fun h => hbyte (congrArg some h))
    · exact hsame
    · exact absurd hzero hpos.ne'
  · rw [heq]
    exact ⟨rfl, rfl, rfl⟩

/-- A transfer in flight stays as it is until ENGINE_BYTE is taken. -/
theorem EndlessRun.sameTransfer_of_waiting (hrun : EndlessRun ops states) (hreset : ∀ n, ops n ≠ some .reset) {n m : Nat}
    (hnm : n ≤ m) (hwaits : ∀ j, n ≤ j → j < m → ops j ≠ some .engineByte) (hpos : 0 < (states n).txRem) :
    (states n).SameTransfer (states m) := by
  induction m, hnm using Nat.le_induction with
  | base => exact ⟨rfl, rfl, rfl⟩
  | succ m hnm ih =>
    have hbefore := ih fun j hj hlt => hwaits j hj (Nat.lt_succ_of_lt hlt)
    obtain ⟨hrem, -, -⟩ := id hbefore
    exact hbefore.trans (hrun.sameTransfer_succ (hreset m) (hwaits m hnm (Nat.lt_succ_self m)) (hrem ▸ hpos))

/-- Under weak fairness ENGINE_BYTE is taken in the end, because the transfer keeps it enabled; the first time it is, the transfer is
still as it was. -/
theorem EndlessRun.exists_engineByte (hrun : EndlessRun ops states) (hreset : ∀ n, ops n ≠ some .reset)
    (hfair : WeaklyFair .engineByte ops states) {n : Nat} (hpos : 0 < (states n).txRem) :
    ∃ m, n ≤ m ∧ ops m = some .engineByte ∧ (states n).SameTransfer (states m) := by
  have htaken : ∃ m, n ≤ m ∧ ops m = some .engineByte := by
    by_contra hnever
    refine hnever (hfair n fun m hnm => ?_)
    obtain ⟨hrem, -, -⟩ :=
      hrun.sameTransfer_of_waiting hreset hnm (fun j hj _ hop => hnever ⟨j, hj, hop⟩) hpos
    simpa [enabled, hrem] using hpos
  obtain ⟨hnm, hop⟩ := Nat.find_spec htaken
  exact ⟨Nat.find htaken, hnm, hop, hrun.sameTransfer_of_waiting hreset hnm
    (fun j hj hlt hopj => Nat.find_min htaken hlt ⟨hj, hopj⟩) hpos⟩

/-- Under weak fairness the engine moves the next byte of a transfer, and the last byte to move raises the completion. -/
theorem EndlessRun.exists_byte_moved (hrun : EndlessRun ops states) (hreset : ∀ n, ops n ≠ some .reset)
    (hfair : WeaklyFair .engineByte ops states) {n : Nat} (hpos : 0 < (states n).txRem) :
    ∃ m, n < m ∧ (states m).txRem = (states n).txRem - 1 ∧ (states m).txOut.length = (states n).txOut.length + 1 ∧
      ((states n).txRem = 1 → (states m).tcPend = true) := by
  obtain ⟨m, hnm, hop, hrem, -, hout⟩ := hrun.exists_engineByte hreset hfair hpos
  obtain ⟨-, ⟨i, hi, -, heq⟩ | ⟨hnone, -⟩⟩ := hrun.step_effect m
  · obtain rfl : .engineByte = i := Option.some.inj (hop.symm.trans hi)
    obtain ⟨b, hb⟩ := (states m).engineByte_txOut_append
    rw [effectOf] at heq
    refine ⟨m + 1, Nat.lt_succ_of_le hnm, ?_, ?_, fun hlast => ?_⟩
    · rw [heq, State.engineByte_txRem, hrem]
    · rw [heq, hb, hout, List.length_append, List.length_singleton]
    · rw [heq, State.engineByte_tcPend, hrem, hlast]
      simp
  · cases hop.symm.trans hnone

/-- Under weak fairness a transfer with `r + 1` bytes to move completes: by induction on the bytes left. -/
theorem EndlessRun.exists_complete (hrun : EndlessRun ops states) (hreset : ∀ n, ops n ≠ some .reset)
    (hfair : WeaklyFair .engineByte ops states) {r n : Nat} (hr : (states n).txRem = r + 1) :
    ∃ m, n < m ∧ (states m).txRem = 0 ∧ (states m).tcPend = true ∧
      (states m).txOut.length = (states n).txOut.length + (r + 1) := by
  induction r generalizing n with
  | zero =>
    obtain ⟨m, hnm, hrem, hlen, hlast⟩ := hrun.exists_byte_moved hreset hfair (n := n) (by omega)
    exact ⟨m, hnm, by omega, hlast hr, hlen⟩
  | succ r ih =>
    obtain ⟨m, hnm, hrem, hlen, -⟩ := hrun.exists_byte_moved hreset hfair (n := n) (by omega)
    obtain ⟨l, hml, hzero, hpend, hgrown⟩ := ih (n := m) (by omega)
    exact ⟨l, hnm.trans hml, hzero, hpend, by omega⟩

end EndlessRun

/-- Settles O43: a transfer in flight has a byte to move, and all its bytes are moved. -/
theorem fairEngineCompletesEveryTransfer : Obligations.FairEngineCompletesEveryTransfer := by
  intro ops states hrun _ hreset hfair n hpos
  obtain ⟨r, hr⟩ := Nat.exists_eq_add_one.2 hpos
  rw [hr]
  exact hrun.exists_complete hreset hfair hr

end Sys2Proof.Machine

/-! The proofs of the model's own choices: the canonical form of memory (notes/assumptions/8.md) and the end of a schedule
(notes/assumptions/3.md). -/

namespace Sys2Proof.Machine

/-! ### The canonical form is determined by what it reads as -/

/-- A listed address has an entry. -/
theorem Memory.mem_of_lookup_eq_some {m : Memory} {a : Nat} {v : Byte} (h : Memory.lookup m a = some v) : (a, v) ∈ m := by
  induction m with
  | nil => cases h
  | cons p m ih =>
    obtain ⟨x, w⟩ := p
    rw [Memory.lookup] at h
    split at h
    · next hax =>
      subst hax
      obtain rfl := Option.some.inj h
      exact List.mem_cons_self
    · exact List.mem_cons_of_mem _ (ih h)

/-- Looking up the address of an entry finds that entry, because no address stands twice in a rising list. -/
theorem Memory.lookup_eq_some_of_mem {m : Memory} {a : Nat} {v : Byte} (hm : m.Pairwise (fun p r => p.1 < r.1))
    (h : (a, v) ∈ m) : Memory.lookup m a = some v := by
  induction m with
  | nil => cases h
  | cons p m ih =>
    obtain ⟨hlt, hrest⟩ := List.pairwise_cons.1 hm
    rw [Memory.lookup]
    obtain rfl | htail := List.mem_cons.1 h
    · exact if_pos rfl
    · rw [if_neg (hlt _ htail).ne']
      exact ih hrest htail

/-- The entries of a canonical memory are the bytes that read otherwise than their reset content. -/
theorem Memory.wf.mem_iff {c : Config} {m : Memory} (hm : Memory.wf c m) (a : Nat) (v : Byte) :
    (a, v) ∈ m ↔ Memory.read c m a = some v ∧ Memory.unlisted c a ≠ some v := by
  obtain ⟨hrising, hentry⟩ := hm
  constructor
  · intro h
    obtain ⟨hin, hne⟩ := hentry _ h
    obtain ⟨d, hd⟩ := Option.ne_none_iff_exists'.1 hin
    refine ⟨?_, hne⟩
    simp only [Memory.read, hd, Memory.lookup_eq_some_of_mem hrising h, Option.getD_some]
  · rintro ⟨hread, hne⟩
    apply Memory.mem_of_lookup_eq_some
    cases hd : Memory.unlisted c a with
    | none => simp [Memory.read, hd] at hread
    | some d =>
      cases hl : Memory.lookup m a with
      | none => exact absurd (by simpa [Memory.read, hd, hl] using hread) (hd ▸ hne)
      | some w => simpa [Memory.read, hd, hl] using hread

/-- Settles O29: the two rising lists have the same entries, which are what the memories read as. -/
theorem canonicalMemoriesThatReadAlikeAreEqual : Obligations.CanonicalMemoriesThatReadAlikeAreEqual := by
  intro c m m' hm hm' hread
  have hirrefl : Std.Irrefl (fun p r : Host.Cell => p.1 < r.1) := ⟨fun p => Nat.lt_irrefl p.1⟩
  refine hm.1.eq_of_mem_iff hm'.1 fun ⟨a, v⟩ => ?_
  rw [hm.mem_iff, hm'.mem_iff, hread]

/-! ### The end of a schedule -/

/-- With an empty schedule there is no word to fetch. -/
theorem fetchWord_eq_none {s : State} (h : s.schedule = []) : fetchWord s = none := by
  simp [fetchWord, h]

/-- Settles O10: the step fetches before it decodes or runs anything, and there is no word to fetch. -/
theorem noWordLeftIsRefused : Obligations.NoWordLeftIsRefused := by
  intro s h
  rw [step, fetchWord_eq_none h]

end Sys2Proof.Machine
